-- ==== Sys2Proof/Word.lean ====
section
/-! DEFINITION. The widths of DBRC's words (00_scope.md R6: ADDRW = BPW = CPPW = 32, DIMW = 16), fixed at the values
the spec decides (92_eei_decisions.md D8, D9, D11); PIXW is a parameter (Config.lean). Log entry 8. -/

namespace Sys2Proof

/-- One byte of memory (20_memory.md R50). -/
abbrev Byte := BitVec 8

/-- A packed word of a plane, `BPW` bits (R6). -/
abbrev Word := BitVec 32

/-- A pixel (color) value of `PIXW` bits, 8, 16 or 32 (R6, R7), zero extended to the widest. -/
abbrev Pixel := BitVec 32

/-- A byte address as a register or an operand holds it, `ADDRW` bits (R6). -/
abbrev Addr := BitVec 32

/-- WIDTH, HEIGHT, WPL, TOP_LINE and a line number, `DIMW` bits (R6). -/
abbrev Dim := BitVec 16

/-- `cycles_per_pixel`, `CPPW` bits (R6). -/
abbrev Cpp := BitVec 32

/-- A command `CMD[127:0]` (30_encoding.md R80). -/
abbrev Command := BitVec 128

end Sys2Proof
end

