-- ==== Sys2Proof/Config.lean ====
section
/-! DEFINITION. What an implementation fixes: the parameters of 00_scope.md R6. Those with a value are numbers here; the
OPEN ones are opaque constants, about whose value nothing can be proved (log entries 5, 6, 7), shaped so that the
constraints of R7 hold of them whatever they are. -/

namespace Sys2Proof

/-- BIT_ORDER (R6, 20_memory.md R55): which bit of a packed word is the leftmost pixel. -/
inductive BitOrder where
  | lsbFirst
  | msbFirst
  deriving DecidableEq, Repr, Inhabited

/-- OVERLAY_UNSET (R6, 47_external_units.md R179): the default, the background pixel, or some total function of the
two pixels (`Config.overlayUnset`). -/
inductive Blend where
  | background
  | other
  deriving DecidableEq, Repr, Inhabited

/-- PIXW (R6, R7; 92_eei_decisions.md D10): the width of a pixel value, 8, 16 or 32 bits. -/
inductive PixelWidth where
  | w8
  | w16
  | w32
  deriving DecidableEq, Repr, Inhabited

/-- `PIX_BYTES = PIXW / 8` (R6). -/
def PixelWidth.bytes : PixelWidth → Nat
  | .w8 => 1
  | .w16 => 2
  | .w32 => 4

/-- `PIXW` (R6). -/
def PixelWidth.bits (w : PixelWidth) : Nat := 8 * w.bytes

/-- `p` is a pixel value of `PIXW` bits: `p[31:PIXW] = 0`. -/
def PixelWidth.fits (w : PixelWidth) (p : Pixel) : Bool := decide (p.toNat < 2 ^ w.bits)

/-- One bit-addressable window, the half-open range `[lo, hi)` (20_memory.md R60). -/
structure Window where
  lo : Nat
  hi : Nat
  deriving DecidableEq, Repr

/-- The initial contents of memory (10_state.md R38, 20_memory.md R70): the same known byte everywhere, or arbitrary. -/
inductive Fill where
  | uniform (b : Byte)
  | arbitrary
  deriving DecidableEq, Repr

/-- PIXW and the OPEN parameters of R6 as data. No step changes them. -/
structure Platform where
  pixelWidth : PixelWidth
  bitOrder : BitOrder
  blend : Blend
  palOff : Pixel
  palOn : Pixel
  lowWindow : Window
  highWindow : Window
  arenaBase : Nat
  arenaLimit : Nat
  deriving DecidableEq, Repr

namespace Config

/-- `2^ADDRW`: one more than the last byte address (20_memory.md R50). -/
abbrev addressSpace : Nat := 4294967296

/-- `BPW` (R6). -/
abbrev bpw : Nat := 32

/-- `WORD_BYTES = BPW / 8` (R6). -/
abbrev wordBytes : Nat := 4

/-- The byte an address holds that nothing has written (20_memory.md R70: arbitrary). Free value, log entry 6. -/
opaque initialByte : Nat → Byte

/-- OVERLAY_UNSET of a platform that does not take the default (47_external_units.md R179: any total function of
palette entry 0 and the background pixel), one for each PIXW. Free value, log entry 7. -/
opaque overlayUnset : PixelWidth → Pixel → Pixel → Pixel

/-- BIT_ORDER of the machine at reset; OPEN. -/
opaque bitOrder : BitOrder

/-- PAL_OFF of the machine at reset; OPEN. -/
opaque palOff : Pixel

/-- What PAL_ON is at reset where it differs from PAL_OFF; OPEN. -/
opaque palOnChoice : Pixel

/-- Where the low window begins at reset; OPEN. -/
opaque windowLo : Nat

/-- The sizes, in order, of the low window, the gap above it and the high window; OPEN. -/
opaque windowSize : Nat → Nat

/-- The word index of ARENA_BASE at reset; OPEN. -/
opaque arenaBaseWord : Nat

/-- The bytes from ARENA_BASE to ARENA_LIMIT at reset, as far as the address space goes; OPEN. -/
opaque arenaSize : Nat

/-- The parameters of the machine at reset: PIXW has the value 00_scope.md R6 gives it (log entry 8), the OPEN ones meet
the constraints of R7: the two palette defaults differ, the windows are disjoint with the first below the second, the
arena is word aligned and inside the address space. -/
def platform : Platform where
  pixelWidth := .w32
  bitOrder := bitOrder
  blend := .other
  palOff := palOff
  palOn := if palOnChoice = palOff then ~~~palOff else palOnChoice
  lowWindow := ⟨windowLo, windowLo + windowSize 0⟩
  highWindow := ⟨windowLo + windowSize 0 + windowSize 1, windowLo + windowSize 0 + windowSize 1 + windowSize 2⟩
  arenaBase := min (arenaBaseWord * wordBytes) addressSpace
  arenaLimit := min (min (arenaBaseWord * wordBytes) addressSpace + arenaSize) addressSpace

end Config

/-- The constraints of 00_scope.md R7 on the parameters; the palette defaults are PIXW-bit values (R6). -/
abbrev Platform.Valid (p : Platform) : Prop :=
  p.palOff ≠ p.palOn ∧ p.pixelWidth.fits p.palOff = true ∧ p.pixelWidth.fits p.palOn = true ∧
  p.lowWindow.lo ≤ p.lowWindow.hi ∧ p.lowWindow.hi ≤ p.highWindow.lo ∧ p.highWindow.lo ≤ p.highWindow.hi ∧
  p.arenaBase % Config.wordBytes = 0 ∧ p.arenaBase ≤ p.arenaLimit ∧ p.arenaLimit ≤ Config.addressSpace

/-- The worked examples' parameters where R6 gives a default: the default blend, palette and windows. PIXW,
BIT_ORDER and the arena are arguments; the default PAL_ON is `2^PIXW - 1`. -/
def Platform.worked (width : PixelWidth) (order : BitOrder) (arenaBase arenaLimit : Nat) : Platform where
  pixelWidth := width
  bitOrder := order
  blend := .background
  palOff := 0
  palOn := BitVec.ofNat 32 (2 ^ width.bits - 1)
  lowWindow := ⟨0x20000000, 0x20100000⟩
  highWindow := ⟨0x40000000, 0x40100000⟩
  arenaBase := arenaBase
  arenaLimit := arenaLimit

end Sys2Proof
end

