-- ==== Sys2Proof/Syntax.lean ====
section
/-! DEFINITION. The command set: one constructor per row of spec/opcode_table.json (30_encoding.md R84), with the operands
of R82 and R83; a color is a PIXW-bit value, zero extended. -/

namespace Sys2Proof

/-- The 2-bit selector of PLANE_IS_BIT_ADDRESSABLE (44_addressability.md R150): a plane by index or by role. -/
inductive Selector where
  | p0
  | p1
  | front
  | back
  deriving DecidableEq, Repr

/-- A DBRC command. -/
inductive Instr where
  /-- `INIT width, height, top_line` (40_lifecycle.md R100). -/
  | init (width height topLine : Dim)
  /-- `INIT.BG width, height, top_line, bg_addr` (40_lifecycle.md R100). -/
  | initBg (width height topLine : Dim) (bgAddr : Addr)
  /-- `DESTROY` (40_lifecycle.md R101). -/
  | destroy
  /-- `RASTERIZE cpp, line, dest` (41_rasterize.md R110). -/
  | rasterize (cpp : Cpp) (line : Dim) (dest : Addr)
  /-- `PEND_FLIP` (42_flip.md R130). -/
  | pendFlip
  /-- `FLIP_NOW` (42_flip.md R131). -/
  | flipNow
  /-- `GET_BACK_BUFFER` (43_backbuffer.md R140). -/
  | getBackBuffer
  /-- `MAKE_BACK_GRAPHICS` (43_backbuffer.md R141). -/
  | makeBackGraphics
  /-- `COPY_TO_BACK` (43_backbuffer.md R142). -/
  | copyToBack
  /-- `PLANE_IS_BIT_ADDRESSABLE sel` (44_addressability.md R150). -/
  | planeIsBitAddressable (sel : Selector)
  /-- `SET_FG_COLOR color` (45_palette_background.md R160). -/
  | setFgColor (color : Pixel)
  /-- `SET_BG_COLOR color` (45_palette_background.md R161). -/
  | setBgColor (color : Pixel)
  /-- `SET_BACKGROUND addr` (45_palette_background.md R162). -/
  | setBackground (addr : Addr)
  /-- `CLR_BACKGROUND` (45_palette_background.md R163). -/
  | clrBackground
  /-- `READ_REG reg` (46_status.md R170). -/
  | readReg (reg : BitVec 8)
  deriving DecidableEq, Repr

end Sys2Proof
end

