-- ==== Sys2Proof/WellFormed.lean ====
section
/-! DEFINITION. Which terms of `Instr` are commands of a block with pixels of `PIXW` bits: every operand's type already has
its field's width (30_encoding.md R83) but a color's, so the checks left are that a color is a PIXW-bit value (R82, R85:
`W1[31:PIXW] != 0` is illegal in format `C`) and that READ_REG's register number is in range (R85: for `0x60`, `SUB > 9`
is illegal). -/

namespace Sys2Proof

/-- The highest register number of 10_state.md R29. -/
abbrev lastReg : BitVec 8 := 9

/-- The check on a term of `Instr`, one arm per command. -/
def Instr.wellFormed (w : PixelWidth) : Instr → Bool
  | .init _ _ _ => true
  | .initBg _ _ _ _ => true
  | .destroy => true
  | .rasterize _ _ _ => true
  | .pendFlip => true
  | .flipNow => true
  | .getBackBuffer => true
  | .makeBackGraphics => true
  | .copyToBack => true
  | .planeIsBitAddressable _ => true
  | .setFgColor color => w.fits color
  | .setBgColor color => w.fits color
  | .setBackground _ => true
  | .clrBackground => true
  | .readReg reg => decide (reg ≤ lastReg)

/-- `i` is a command the encoding admits where pixels have the width `w`. -/
abbrev Instr.WellFormed (w : PixelWidth) (i : Instr) : Prop := i.wellFormed w = true

end Sys2Proof
end

