-- ==== Sys2Proof/Decode.lean ====
section
/-! DEFINITION. Decoding a 128-bit command, total on all 2^128 values, with every illegal command rejected under the name
of the clause of 30_encoding.md R85 it falls under; then the encoder, from the same tables (R81, R82, R84); then the rows
of spec/opcode_table.json as data, beside which a statement can hold the decoder. -/

namespace Sys2Proof

/-- Why a command is illegal (30_encoding.md R85). The response does not carry the cause (R87: one code). -/
inductive Illegal where
  /-- `OPC` is not in the table of R84. -/
  | unknownOpcode
  /-- `SUB` is not a value the table lists for that `OPC`. -/
  | unlistedSub
  /-- `RSV0 != 0`. -/
  | reservedControlBits
  /-- A bit of `W1`, `W2` or `W3` that the format leaves unassigned is 1. -/
  | reservedOperandBits
  deriving DecidableEq, Repr

/-- `OPC = CMD[127:120]` (R81). -/
def Command.opc (c : Command) : BitVec 8 := c.extractLsb' 120 8

/-- `SUB = CMD[119:112]` (R81). -/
def Command.sub (c : Command) : BitVec 8 := c.extractLsb' 112 8

/-- `RSV0 = CMD[111:96]` (R81). -/
def Command.rsv0 (c : Command) : BitVec 16 := c.extractLsb' 96 16

/-- `W1 = CMD[95:64]` (R81). -/
def Command.w1 (c : Command) : BitVec 32 := c.extractLsb' 64 32

/-- `W2 = CMD[63:32]` (R81). -/
def Command.w2 (c : Command) : BitVec 32 := c.extractLsb' 32 32

/-- `W3 = CMD[31:0]` (R81). -/
def Command.w3 (c : Command) : BitVec 32 := c.extractLsb' 0 32

/-- A command from its fields, `RSV0` zero: `OPC ∥ SUB ∥ RSV0 ∥ W1 ∥ W2 ∥ W3` (R81). -/
def Command.pack (opc sub : BitVec 8) (w1 w2 w3 : BitVec 32) : Command := opc ++ sub ++ (0 : BitVec 16) ++ w1 ++ w2 ++ w3

/-- `v[15:0]`. -/
def lowHalf (v : BitVec 32) : BitVec 16 := v.extractLsb' 0 16

/-- `v[31:16]`. -/
def highHalf (v : BitVec 32) : BitVec 16 := v.extractLsb' 16 16

/-- Accept `i` if the bits the format leaves unassigned are 0 (R82, R85). -/
def acceptIf (unassignedZero : Bool) (i : Instr) : Except Illegal Instr :=
  if unassignedZero then .ok i else .error .reservedOperandBits

/-- Format `N` (R82): `SUB`, `W1`, `W2`, `W3` all 0. -/
def decodeN (c : Command) (i : Instr) : Except Illegal Instr :=
  if c.sub ≠ 0 then .error .unlistedSub else acceptIf (c.w1 == 0 && c.w2 == 0 && c.w3 == 0) i

/-- Format `I` (R82): `SUB[0]` is `bg`; `W1` holds `width` and `height`, `W2[15:0]` `top_line`; `W3` is `bg_addr`, or 0
where `bg = 0`. -/
def decodeI (c : Command) : Except Illegal Instr :=
  if c.sub = 0 then
    acceptIf (highHalf c.w2 == 0 && c.w3 == 0) (.init (lowHalf c.w1) (highHalf c.w1) (lowHalf c.w2))
  else if c.sub = 1 then
    acceptIf (highHalf c.w2 == 0) (.initBg (lowHalf c.w1) (highHalf c.w1) (lowHalf c.w2) c.w3)
  else .error .unlistedSub

/-- Format `R` (R82): `W1` is `cpp`, `W2[15:0]` is `line`, `W3` is `dest`. -/
def decodeR (c : Command) : Except Illegal Instr :=
  if c.sub ≠ 0 then .error .unlistedSub
  else acceptIf (highHalf c.w2 == 0) (.rasterize c.w1 (lowHalf c.w2) c.w3)

/-- The selector that `SUB` encodes (R82, R84: `0x00` to `0x03`). -/
def Selector.ofSub (sub : BitVec 8) : Option Selector :=
  if sub = 0 then some .p0 else if sub = 1 then some .p1 else if sub = 2 then some .front
  else if sub = 3 then some .back else none

/-- Format `S` of PLANE_IS_BIT_ADDRESSABLE (R82): `SUB[1:0]` is `sel`, `SUB[7:2]` is 0. -/
def decodeSelector (c : Command) : Except Illegal Instr :=
  match Selector.ofSub c.sub with
  | some sel => acceptIf (c.w1 == 0 && c.w2 == 0 && c.w3 == 0) (.planeIsBitAddressable sel)
  | none => .error .unlistedSub

/-- Format `S` of READ_REG (R82, R85): `SUB` is `reg`, 0 to 9. -/
def decodeReadReg (c : Command) : Except Illegal Instr :=
  if c.sub ≤ lastReg then acceptIf (c.w1 == 0 && c.w2 == 0 && c.w3 == 0) (.readReg c.sub) else .error .unlistedSub

/-- Format `C` (R82, R85): `W1[PIXW-1:0]` is `color`, `W1[31:PIXW]` is 0. -/
def decodeC (w : PixelWidth) (c : Command) (i : Pixel → Instr) : Except Illegal Instr :=
  if c.sub ≠ 0 then .error .unlistedSub else acceptIf (w.fits c.w1 && c.w2 == 0 && c.w3 == 0) (i c.w1)

/-- `OPC = 0x52` (R84): `SUB = 1` is SET_BACKGROUND (format `A`), `SUB = 0` is CLR_BACKGROUND (format `N`). -/
def decodeBackground (c : Command) : Except Illegal Instr :=
  if c.sub = 1 then acceptIf (c.w1 == 0 && c.w2 == 0) (.setBackground c.w3)
  else decodeN c .clrBackground

/-- Select the row by `(OPC, SUB)` and extract the operands (R84, R89 step 3). -/
def decodeFields (w : PixelWidth) (c : Command) : Except Illegal Instr :=
  if c.opc = 0x01 then decodeI c
  else if c.opc = 0x02 then decodeN c .destroy
  else if c.opc = 0x10 then decodeR c
  else if c.opc = 0x20 then decodeN c .pendFlip
  else if c.opc = 0x21 then decodeN c .flipNow
  else if c.opc = 0x30 then decodeN c .getBackBuffer
  else if c.opc = 0x31 then decodeN c .makeBackGraphics
  else if c.opc = 0x32 then decodeN c .copyToBack
  else if c.opc = 0x40 then decodeSelector c
  else if c.opc = 0x50 then decodeC w c .setFgColor
  else if c.opc = 0x51 then decodeC w c .setBgColor
  else if c.opc = 0x52 then decodeBackground c
  else if c.opc = 0x60 then decodeReadReg c
  else .error .unknownOpcode

/-- The decoder (30_encoding.md R85, R89) of a block with pixels of width `w`: the command's instruction, or why it is
illegal. -/
def decode (w : PixelWidth) (c : Command) : Except Illegal Instr :=
  if c.rsv0 ≠ 0 then .error .reservedControlBits else decodeFields w c

/-- The value of `SUB` that encodes a selector (R82). -/
def Selector.toSub : Selector → BitVec 8
  | .p0 => 0
  | .p1 => 1
  | .front => 2
  | .back => 3

/-- A half word in bits 15:0 of a word, bits 31:16 zero (R82). -/
def lowWord (v : BitVec 16) : BitVec 32 := (0 : BitVec 16) ++ v

/-- The encoder (30_encoding.md R81, R82, R84): the command word of an instruction. -/
def encode : Instr → Command
  | .init width height topLine => Command.pack 0x01 0x00 (height ++ width) (lowWord topLine) 0
  | .initBg width height topLine bgAddr => Command.pack 0x01 0x01 (height ++ width) (lowWord topLine) bgAddr
  | .destroy => Command.pack 0x02 0x00 0 0 0
  | .rasterize cpp line dest => Command.pack 0x10 0x00 cpp (lowWord line) dest
  | .pendFlip => Command.pack 0x20 0x00 0 0 0
  | .flipNow => Command.pack 0x21 0x00 0 0 0
  | .getBackBuffer => Command.pack 0x30 0x00 0 0 0
  | .makeBackGraphics => Command.pack 0x31 0x00 0 0 0
  | .copyToBack => Command.pack 0x32 0x00 0 0 0
  | .planeIsBitAddressable sel => Command.pack 0x40 sel.toSub 0 0 0
  | .setFgColor color => Command.pack 0x50 0x00 color 0 0
  | .setBgColor color => Command.pack 0x51 0x00 color 0 0
  | .setBackground addr => Command.pack 0x52 0x01 0 0 addr
  | .clrBackground => Command.pack 0x52 0x00 0 0 0
  | .readReg reg => Command.pack 0x60 reg 0 0 0

/-- A row of spec/opcode_table.json: a command belongs to it if its bits under `mask` are `pattern`. -/
structure Row where
  mnemonic : String
  pattern : Command
  mask : Command
  deriving DecidableEq, Repr

/-- The command's bits under the row's mask are the row's pattern. -/
def Row.admits (r : Row) (c : Command) : Bool := c &&& r.mask == r.pattern

/-- The rows of spec/opcode_table.json, in its order. Its masks are those of PIXW = 32. -/
def opcodeTable : List Row :=
  [⟨"INIT", 0x01000000000000000000000000000000, 0xFFFFFFFF00000000FFFF0000FFFFFFFF⟩,
   ⟨"INIT.BG", 0x01010000000000000000000000000000, 0xFFFFFFFF00000000FFFF000000000000⟩,
   ⟨"DESTROY", 0x02000000000000000000000000000000, 0xFFFFFFFFFFFFFFFFFFFFFFFFFFFFFFFF⟩,
   ⟨"RASTERIZE", 0x10000000000000000000000000000000, 0xFFFFFFFF00000000FFFF000000000000⟩,
   ⟨"PEND_FLIP", 0x20000000000000000000000000000000, 0xFFFFFFFFFFFFFFFFFFFFFFFFFFFFFFFF⟩,
   ⟨"FLIP_NOW", 0x21000000000000000000000000000000, 0xFFFFFFFFFFFFFFFFFFFFFFFFFFFFFFFF⟩,
   ⟨"GET_BACK_BUFFER", 0x30000000000000000000000000000000, 0xFFFFFFFFFFFFFFFFFFFFFFFFFFFFFFFF⟩,
   ⟨"MAKE_BACK_GRAPHICS", 0x31000000000000000000000000000000, 0xFFFFFFFFFFFFFFFFFFFFFFFFFFFFFFFF⟩,
   ⟨"COPY_TO_BACK", 0x32000000000000000000000000000000, 0xFFFFFFFFFFFFFFFFFFFFFFFFFFFFFFFF⟩,
   ⟨"PLANE_IS_BIT_ADDRESSABLE", 0x40000000000000000000000000000000, 0xFFFCFFFFFFFFFFFFFFFFFFFFFFFFFFFF⟩,
   ⟨"SET_FG_COLOR", 0x50000000000000000000000000000000, 0xFFFFFFFF00000000FFFFFFFFFFFFFFFF⟩,
   ⟨"SET_BG_COLOR", 0x51000000000000000000000000000000, 0xFFFFFFFF00000000FFFFFFFFFFFFFFFF⟩,
   ⟨"SET_BACKGROUND", 0x52010000000000000000000000000000, 0xFFFFFFFFFFFFFFFFFFFFFFFF00000000⟩,
   ⟨"CLR_BACKGROUND", 0x52000000000000000000000000000000, 0xFFFFFFFFFFFFFFFFFFFFFFFFFFFFFFFF⟩,
   ⟨"READ_REG", 0x60000000000000000000000000000000, 0xFF00FFFFFFFFFFFFFFFFFFFFFFFFFFFF⟩]

/-- The mnemonic of an instruction's row in spec/opcode_table.json. -/
def Instr.mnemonic : Instr → String
  | .init _ _ _ => "INIT"
  | .initBg _ _ _ _ => "INIT.BG"
  | .destroy => "DESTROY"
  | .rasterize _ _ _ => "RASTERIZE"
  | .pendFlip => "PEND_FLIP"
  | .flipNow => "FLIP_NOW"
  | .getBackBuffer => "GET_BACK_BUFFER"
  | .makeBackGraphics => "MAKE_BACK_GRAPHICS"
  | .copyToBack => "COPY_TO_BACK"
  | .planeIsBitAddressable _ => "PLANE_IS_BIT_ADDRESSABLE"
  | .setFgColor _ => "SET_FG_COLOR"
  | .setBgColor _ => "SET_BG_COLOR"
  | .setBackground _ => "SET_BACKGROUND"
  | .clrBackground => "CLR_BACKGROUND"
  | .readReg _ => "READ_REG"

/-- The command whose bits are the low `nbits` of `w`, every bit above them 0: one 128-bit word, numbered as
spec/opcode_table.json numbers it (`CMD[127:0]`, bit 0 the least significant bit of `W3`). Log entry 1. -/
def commandOfBits (nbits w : Nat) : Command := BitVec.ofNat 128 (w % 2 ^ nbits)

/-- The instruction the decoder reads from the command of `commandOfBits`, none where it is illegal, with the PIXW of
00_scope.md R6 (log entry 8). -/
def decodeTableWord (nbits w : Nat) : Option Instr := (decode .w32 (commandOfBits nbits w)).toOption

end Sys2Proof
end

