-- ==== Sys2Proof/Machine/State.lean ====
section
/-! DEFINITION. The state: every variable of 10_state.md R20, memory, the allocator's state (R35), the parameters as
data (R38; log entry 5), and what the two ports and the outside world present (30_encoding.md R80, 20_memory.md R62).
Then the faults, the refusals and the state right after reset. -/

namespace Sys2Proof.Machine

/-- MODE (10_state.md R21). -/
inductive Mode where
  | unconfigured
  | ready
  | halted
  deriving DecidableEq, Repr

/-- The status codes of 30_encoding.md R87. -/
inductive Status where
  | ok
  | errIllegal
  | errState
  deriving DecidableEq, Repr

/-- A response (30_encoding.md R86): a status and four result words. -/
structure Response where
  st : Status
  r0 : BitVec 32
  r1 : BitVec 32
  r2 : BitVec 32
  r3 : BitVec 32
  deriving DecidableEq, Repr

/-- The two command ports (30_encoding.md R80): T for the consumer context, D for the producer context. -/
inductive Port where
  | T
  | D
  deriving DecidableEq, Repr

/-- Who accesses memory outside DBRC (00_scope.md R5, 20_memory.md R62). -/
inductive Agent where
  /-- The Timing Driver, the agent of port T. -/
  | consumer
  /-- The drawing code, the agent of port D. -/
  | producer
  /-- Any other agent outside DBRC. -/
  | other
  deriving DecidableEq, Repr

/-- One step of the global sequence of 20_memory.md R62, as the outside world gives it. -/
inductive Event where
  /-- A requester presents a command on its port (R62 (a); 30_encoding.md R80). -/
  | command (port : Port) (cmd : Command)
  /-- An agent outside DBRC makes one memory write, `MemWrite(addr, n, v)` (R62 (b)). -/
  | write (agent : Agent) (addr n v : Nat)
  /-- An agent outside DBRC makes one memory read, `MemRead(addr, n)` (R62 (b)). -/
  | read (agent : Agent) (addr n : Nat)
  /-- The reset input takes a level (70_reset_and_hazards.md R230). -/
  | resetLine (asserted : Bool)
  deriving DecidableEq, Repr

/-- What a port holds for its requester: a command presented and never answered (its agent is then stuck,
00_scope.md R10), and the last response returned on the port. -/
structure PortState where
  waiting : Option Command
  lastResponse : Option Response
  deriving DecidableEq, Repr

/-- Memory (20_memory.md R50): the initial contents, and the bytes that differ from them, by rising address. -/
structure Memory where
  fill : Fill
  cells : List Host.Cell
  deriving DecidableEq, Repr

/-- The whole state of the machine and of what is attached to it. -/
structure State where
  -- The block's variables (10_state.md R20).
  mode : Mode
  width : Dim
  height : Dim
  wpl : Dim
  topLine : Dim
  planeBase0 : Addr
  planeBase1 : Addr
  activeIndex : Bool
  flipPending : Bool
  palette0 : Pixel
  palette1 : Pixel
  bgPresent : Bool
  bgBase : Addr
  -- Memory and the allocator (R34, R35; 47_external_units.md R176).
  mem : Memory
  arenaNext : Nat
  allocatorStopped : Bool
  -- PIXW and the OPEN parameters (00_scope.md R6).
  platform : Platform
  -- The ports, the reset input and the steps still to come (30_encoding.md R80, R86; 20_memory.md R62).
  response : Option Response
  portT : PortState
  portD : PortState
  resetAsserted : Bool
  lastRead : Option Nat
  pending : List Event
  deriving DecidableEq, Repr

/-- Why the machine stops with a fault. -/
inductive Fault where
  /-- An agent outside DBRC accesses an address that does not exist (20_memory.md R50, R53). Raised by
  `agentWrite` and `agentRead`. Safe. -/
  | outsideAddressSpace (agent : Agent)
  deriving DecidableEq, Repr

/-- Why a command has no meaning. -/
inductive Refusal where
  /-- An instruction without a meaning yet. Raised by no arm of `exec`. Safe. -/
  | notModelled (mnemonic : String)
  /-- `width mod BPW != 0` at INIT or INIT.BG (93_implementation_defined.md U1). Raised by `initialise`. Safe. -/
  | misalignedWidth
  /-- A plane the allocator cannot have returned: outside the address space, or overlapping the other
  (93_implementation_defined.md U2). Raised by `rasterRow` and `copyFrontToBack`, in no state a run reaches. Safe. -/
  | invalidPlane
  /-- `dest mod PIX_BYTES != 0` at a RASTERIZE that writes a row (U3). Raised by `rasterRow`. Safe. -/
  | misalignedDestination
  /-- `BG_BASE mod PIX_BYTES != 0` at a RASTERIZE that reads a background row (U3). Raised by `rasterRow`. Safe. -/
  | misalignedBackground
  /-- The destination row or the background row leaves `[0, 2^ADDRW)` (U4). Raised by `rasterRow`. Safe. -/
  | outsideAddressSpace
  /-- The destination row overlaps the plane row or the background row it is made from (U5). Raised by
  `rasterRow`. Safe. -/
  | overlappingRows
  deriving DecidableEq, Repr

/-- What a command or a step answers. -/
abbrev Result := Host.Outcome State Fault Refusal

/-- The FATAL output (10_state.md R35): 1 if and only if MODE = HALTED. -/
def State.fatal (s : State) : Bool := s.mode == .halted

/-- A port on which nothing has happened. -/
def PortState.idle : PortState where
  waiting := none
  lastResponse := none

/-- The machine with the parameters `p` right after reset (10_state.md R36, 70_reset_and_hazards.md R230): every variable
of R20 zero, MODE UNCONFIGURED, the allocator's arena untouched (47_external_units.md R176: ARENA_NEXT is initially
ARENA_BASE), memory with nothing listed, no step to come. Log entries 2, 4, 5, 6, 10, 19. -/
def State.resetOn (p : Platform) : State where
  mode := .unconfigured
  width := 0
  height := 0
  wpl := 0
  topLine := 0
  planeBase0 := 0
  planeBase1 := 0
  activeIndex := false
  flipPending := false
  palette0 := 0
  palette1 := 0
  bgPresent := false
  bgBase := 0
  mem := ⟨.arbitrary, []⟩
  arenaNext := p.arenaBase
  allocatorStopped := false
  platform := p
  response := none
  portT := .idle
  portD := .idle
  resetAsserted := false
  lastRead := none
  pending := []

/-- The machine right after reset, with the parameters of `Config.platform`. -/
def State.reset : State := State.resetOn Config.platform

end Sys2Proof.Machine
end

