-- ==== Sys2Proof/Machine/Ops.lean ====
section
/-! DEFINITION. The named operations over memory and over the block's variables: byte and word access (20_memory.md R51),
responses (30_encoding.md R86), the admission check (R89), the fatal halt and the reset that leaves it
(60_exceptions.md R202, R210). -/

namespace Sys2Proof.Machine

/-- The byte at an address of memory that nothing has written. -/
def fillByte : Fill → Nat → Byte
  | .uniform b, _ => b
  | .arbitrary, a => Config.initialByte a

/-- What an unlisted address reads as (20_memory.md R70; log entry 6). -/
def Memory.unlisted (m : Memory) (a : Nat) : Byte := fillByte m.fill a

/-- The byte listed at `a`, if one is. -/
def lookupCell : List Host.Cell → Nat → Option Byte
  | [], _ => none
  | c :: cs, a => if c.1 = a then some c.2 else lookupCell cs a

/-- The list without what it lists at `a`. -/
def eraseCell : List Host.Cell → Nat → List Host.Cell
  | [], _ => []
  | c :: cs, a => if c.1 = a then eraseCell cs a else c :: eraseCell cs a

/-- The list with `v` at `a`, put before the first higher address. -/
def insertCell : List Host.Cell → Nat → Byte → List Host.Cell
  | [], a, v => [(a, v)]
  | c :: cs, a, v => if a < c.1 then (a, v) :: c :: cs else c :: insertCell cs a v

/-- The byte at `a`. -/
def Memory.read (m : Memory) (a : Nat) : Byte := (lookupCell m.cells a).getD (m.unlisted a)

/-- Memory with the byte `v` at `a`, in canonical form again. -/
def Memory.write (m : Memory) (a : Nat) (v : Byte) : Memory :=
  { m with cells := if v = m.unlisted a then eraseCell m.cells a else insertCell (eraseCell m.cells a) a v }

/-- The addresses of a list rise strictly, from above `low` where that is given. -/
def risingFrom : Option Nat → List Host.Cell → Bool
  | _, [] => true
  | none, c :: cs => risingFrom (some c.1) cs
  | some low, c :: cs => decide (low < c.1) && risingFrom (some c.1) cs

/-- The canonical form: addresses strictly rising and inside the address space, and no entry equal to what its address
would read as unlisted. -/
def Memory.wf (m : Memory) : Bool :=
  risingFrom none m.cells && m.cells.all fun c => decide (c.1 < Config.addressSpace) && c.2 != m.unlisted c.1

/-- `MemRead(a, n)` (00_scope.md R9, 20_memory.md R51): `n` bytes, the lowest address the least significant. -/
def Memory.readNat (m : Memory) : Nat → Nat → Nat
  | _, 0 => 0
  | a, n + 1 => (m.read a).toNat + 256 * m.readNat (a + 1) n

/-- `MemWrite(a, n, v)` (R9, R51): the low `8n` bits of `v`, the least significant byte at the lowest address. -/
def Memory.writeNat (m : Memory) : Nat → Nat → Nat → Memory
  | _, 0, _ => m
  | a, n + 1, v => (m.writeNat (a + 1) n (v / 256)).write a (BitVec.ofNat 8 v)

/-- `MemReadWord(a)` (R9). -/
def Memory.readWord (m : Memory) (a : Nat) : Word := BitVec.ofNat 32 (m.readNat a Config.wordBytes)

/-- `MemReadPix(a)` (R9): `PIX_BYTES` bytes. -/
def Memory.readPixel (m : Memory) (w : PixelWidth) (a : Nat) : Pixel := BitVec.ofNat 32 (m.readNat a w.bytes)

/-- `MemWrite(a + i * n, n, vs[i])` for every value of `vs`: words with `n = WORD_BYTES`, pixels (`MemWritePix`, R9) with
`n = PIX_BYTES`. -/
def Memory.writeRun (m : Memory) (n : Nat) : Nat → List (BitVec 32) → Memory
  | _, [] => m
  | a, v :: vs => (m.writeRun n (a + n) vs).writeNat a n v.toNat

/-- The status code of R87. -/
def Status.code : Status → BitVec 8
  | .ok => 0x00
  | .errIllegal => 0x01
  | .errState => 0x02

/-- `RSP = ST ∥ R0 ∥ R1 ∥ R2 ∥ R3` (R86). -/
def Response.bits (r : Response) : BitVec 136 := r.st.code ++ r.r0 ++ r.r1 ++ r.r2 ++ r.r3

/-- `respond(OK, r0, r1, r2, r3)` (00_scope.md R9). -/
def State.respond (s : State) (r0 r1 r2 r3 : BitVec 32) : State :=
  { s with response := some ⟨.ok, r0, r1, r2, r3⟩ }

/-- The command completes and returns no results: `R0..R3 = 0` (30_encoding.md R88). -/
def State.done (s : State) : State := s.respond 0 0 0 0

/-- The command is rejected (60_exceptions.md R203, R204): nothing changes but the response, whose results are 0. -/
def State.reject (s : State) (st : Status) : State :=
  { s with response := some ⟨st, 0, 0, 0, 0⟩ }

/-- No response is returned and nothing changes: the command never completes (00_scope.md R10; log entry 12). -/
def State.noResponse (s : State) : State := { s with response := none }

/-- `raise FATAL_NOT_BIT_ADDRESSABLE` (60_exceptions.md R202, R209): the one exception. Nothing is saved; MODE becomes
HALTED; no response is returned; every other variable keeps its value. -/
def State.raiseFatal (s : State) : State := { s with mode := .halted, response := none }

/-- Every variable of 10_state.md R20 at its reset value (R36; 40_lifecycle.md R101 gives DESTROY the same values). -/
def State.clearBlock (s : State) : State :=
  { s with
    mode := .unconfigured, width := 0, height := 0, wpl := 0, topLine := 0, planeBase0 := 0, planeBase1 := 0
    activeIndex := false, flipPending := false, palette0 := 0, palette1 := 0, bgPresent := false, bgBase := 0 }

/-- The port with the command it was presented dropped (70_reset_and_hazards.md R230). -/
def PortState.drop (p : PortState) : PortState := { p with waiting := none }

/-- A DBRC reset (70_reset_and_hazards.md R230), the one way out of HALTED (60_exceptions.md R210): the block's
variables at their reset values, commands being presented dropped without a response; memory, the allocator and what
is outside untouched. -/
def State.resetBlock (s : State) : State :=
  { s.clearBlock with response := none, portT := s.portT.drop, portD := s.portD.drop }

/-- What a command that needs MODE = READY answers (30_encoding.md R89 (1), (4); 60_exceptions.md R208): its own
effect in READY, ERR_STATE in UNCONFIGURED, no response in HALTED. -/
def State.whenReady (s : State) (effect : Result) : Result :=
  match s.mode with
  | .ready => effect
  | .unconfigured => .next (s.reject .errState)
  | .halted => .next s.noResponse

/-- What a command that needs MODE = UNCONFIGURED answers (R89 (1), (4)). -/
def State.whenUnconfigured (s : State) (effect : Result) : Result :=
  match s.mode with
  | .unconfigured => effect
  | .ready => .next (s.reject .errState)
  | .halted => .next s.noResponse

/-- What a command admitted in UNCONFIGURED and READY answers (R89 (1), (4)). -/
def State.unlessHalted (s : State) (effect : Result) : Result :=
  match s.mode with
  | .halted => .next s.noResponse
  | _ => effect

/-- What a command with a color operand answers: a value of more than `PIXW` bits is illegal, whatever the mode
(45_palette_background.md R160, 60_exceptions.md R208; the decoder already rejects it: log entry 17). -/
def State.withColor (s : State) (color : Pixel) (effect : Result) : Result :=
  if s.platform.pixelWidth.fits color then s.whenReady effect else s.unlessHalted (.next (s.reject .errIllegal))

end Sys2Proof.Machine
end

