-- ==== Sys2Proof/Machine/Flags.lean ====
section
/-! DEFINITION. The flags: the STATUS word (10_state.md R30) and the two writes of the flip FSM (42_flip.md R131, R132;
41_rasterize.md R112). -/

namespace Sys2Proof.Machine

/-- A flag in bit 0 of a 32-bit value. -/
def flagBit (b : Bool) : BitVec 32 := if b then 1 else 0

/-- STATUS, register 0 (10_state.md R30; 46_status.md R170): CONFIGURED, ACTIVE_INDEX, FLIP_PENDING, BG_PRESENT in
bits 0 to 3, bits 31:4 zero. -/
def State.statusWord (s : State) : BitVec 32 :=
  flagBit (s.mode == .ready) ||| flagBit s.activeIndex <<< 1 ||| flagBit s.flipPending <<< 2 |||
    flagBit s.bgPresent <<< 3

/-- `ACTIVE_INDEX <- ACTIVE_INDEX xor 1` (42_flip.md R131). -/
def State.flip (s : State) : State := { s with activeIndex := !s.activeIndex }

/-- The test-and-clear of FLIP_PENDING, with the flip if it was set (41_rasterize.md R112, 20_memory.md R65). -/
def State.consumeFlip (s : State) : State :=
  { s with activeIndex := if s.flipPending then !s.activeIndex else s.activeIndex, flipPending := false }

end Sys2Proof.Machine
end

