-- ==== Sys2Proof/Machine/Operands.lean ====
section
/-! DEFINITION. What a command's operands and the block's variables name: planes, windows, rows, pixels and registers. All
address arithmetic is over integers (20_memory.md R53). -/

namespace Sys2Proof.Machine

/-- `PLANE_BASE[i]`, `i` given as ACTIVE_INDEX holds it. -/
def State.planeBase (s : State) (i : Bool) : Addr := if i then s.planeBase1 else s.planeBase0

/-- The front plane's base (00_scope.md R12). -/
def State.frontBase (s : State) : Addr := s.planeBase s.activeIndex

/-- The back plane's base (00_scope.md R12). -/
def State.backBase (s : State) : Addr := s.planeBase !s.activeIndex

/-- The plane a selector names (44_addressability.md R150). -/
def State.selectedBase (s : State) : Selector → Addr
  | .p0 => s.planeBase0
  | .p1 => s.planeBase1
  | .front => s.frontBase
  | .back => s.backBase

/-- `a` is in the half-open range of a window. -/
def windowHolds (w : Window) (a : Nat) : Bool := decide (w.lo ≤ a) && decide (a < w.hi)

/-- `InWindow(a)` (20_memory.md R60). -/
def inWindow (p : Platform) (a : Nat) : Bool :=
  windowHolds p.lowWindow a || windowHolds p.highWindow a

/-- `BitAddressable` of a plane base (44_addressability.md R151): the base alone is tested. -/
def State.bitAddressable (s : State) (base : Addr) : Bool := inWindow s.platform base.toNat

/-- The words of one plane, `WPL * HEIGHT` (10_state.md R23). -/
def State.planeWords (s : State) : Nat := s.wpl.toNat * s.height.toNat

/-- The pixels of one row, `WPL * BPW` (20_memory.md R55). -/
def State.rowPixels (s : State) : Nat := s.wpl.toNat * Config.bpw

/-- The bytes of one plane row (20_memory.md R54). -/
def State.rowBytes (s : State) : Nat := s.wpl.toNat * Config.wordBytes

/-- `PIX_BYTES` (00_scope.md R6). -/
def State.pixBytes (s : State) : Nat := s.platform.pixelWidth.bytes

/-- The bytes of one row of full pixels, in the destination or the background image (20_memory.md R56, R57). -/
def State.pixelRowBytes (s : State) : Nat := s.rowPixels * s.pixBytes

/-- Step 1 of RASTERIZE (41_rasterize.md R111): `line - TOP_LINE`, an integer that may be negative. -/
def State.localRow (s : State) (line : Dim) : Int := (line.toNat : Int) - (s.topLine.toNat : Int)

/-- The row the range check lets through (41_rasterize.md R113): `local` if it is in `[0, HEIGHT)`. -/
def State.rowInRange (s : State) (line : Dim) : Option Nat :=
  if 0 ≤ s.localRow line ∧ s.localRow line < (s.height.toNat : Int) then some (s.localRow line).toNat else none

/-- Step 4a (41_rasterize.md R114): the byte address of row `row` of the front plane. -/
def State.sourceRow (s : State) (row : Nat) : Nat :=
  s.frontBase.toNat + row * s.wpl.toNat * Config.wordBytes

/-- Step 4b (41_rasterize.md R115): the byte address of row `row` of the background image. -/
def State.backgroundRow (s : State) (row : Nat) : Nat :=
  s.bgBase.toNat + row * s.wpl.toNat * Config.bpw * s.pixBytes

/-- `b(x)` (20_memory.md R55): the bit of its word that pixel `x` of a row is. -/
def bitOfPixel : BitOrder → Nat → Nat
  | .lsbFirst, x => x % Config.bpw
  | .msbFirst, x => Config.bpw - 1 - x % Config.bpw

/-- The bit value of pixel `x` of the packed row at `src` (47_external_units.md R177). -/
def packedPixel (order : BitOrder) (m : Memory) (src x : Nat) : Bool :=
  (m.readWord (src + x / Config.bpw * Config.wordBytes)).getLsbD (bitOfPixel order x)

/-- Two byte ranges, given by address and length, have a byte in common. -/
def rangesOverlap (a n b m : Nat) : Bool :=
  decide (0 < n) && decide (0 < m) && decide (a < b + m) && decide (b < a + n)

/-- The value of a register of 10_state.md R29, zero extended; none for the reserved numbers 10 to 255. -/
def State.regValue (s : State) (reg : BitVec 8) : Option (BitVec 32) :=
  match reg.toNat with
  | 0 => some s.statusWord
  | 1 => some (s.width.setWidth 32)
  | 2 => some (s.height.setWidth 32)
  | 3 => some (s.wpl.setWidth 32)
  | 4 => some (s.topLine.setWidth 32)
  | 5 => some s.planeBase0
  | 6 => some s.planeBase1
  | 7 => some s.palette0
  | 8 => some s.palette1
  | 9 => some s.bgBase
  | _ => none

end Sys2Proof.Machine
end

