-- ==== Sys2Proof/Machine/Addressability.lean ====
section
/-! DEFINITION. The addressability query PLANE_IS_BIT_ADDRESSABLE (44_addressability.md). -/

namespace Sys2Proof.Machine

/-- `PLANE_IS_BIT_ADDRESSABLE sel` (44_addressability.md R150). -/
def execPlaneIsBitAddressable (sel : Selector) (s : State) : Result :=
  s.whenReady (.next (s.respond (flagBit (s.bitAddressable (s.selectedBase sel))) 0 0 0))

end Sys2Proof.Machine
end

