-- ==== Sys2Proof/Machine/ExternalUnits.lean ====
section
/-! DEFINITION. The external units, as the sub-steps of the commands that call them (47_external_units.md): the Word Buffer
Allocator, the Bit Expander and the Bulk Copier; and the preconditions that 93_implementation_defined.md U2 to U5 put on
the two that touch memory. -/

namespace Sys2Proof.Machine

/-- `ALLOCATE_WORD_ARRAY(count)` of the reference allocator (R176): the address it returns and the new ARENA_NEXT; none
where it does not return, for want of room or of a byte address to return (R175; log entries 9, 11). -/
def allocate (limit next count : Nat) : Option (Nat × Nat) :=
  if next + count * Config.wordBytes ≤ limit ∧ next < Config.addressSpace then
    some (next, next + count * Config.wordBytes)
  else none

/-- The two calls of INIT (40_lifecycle.md R100), plane 0 first: the two addresses and the new ARENA_NEXT. -/
def allocatePlanes (limit next count : Nat) : Option (Nat × Nat × Nat) :=
  match allocate limit next count with
  | none => none
  | some (plane0, next1) =>
    match allocate limit next1 count with
    | none => none
    | some (plane1, next2) => some (plane0, plane1, next2)

/-- What INIT's two calls answer in state `s`; a stopped allocator answers nothing (log entry 10). -/
def State.allocatePlanes (s : State) (count : Nat) : Option (Nat × Nat × Nat) :=
  if s.allocatorStopped then none else Sys2Proof.Machine.allocatePlanes s.platform.arenaLimit s.arenaNext count

/-- OVERLAY_UNSET (R179): the pixel an unset bit shows under overlay, a PIXW-bit value. -/
def blendUnset (w : PixelWidth) : Blend → Pixel → Pixel → Pixel
  | .background, _, bg => bg
  | .other, p0, bg => BitVec.ofNat 32 ((Config.overlayUnset w p0 bg).toNat % 2 ^ w.bits)

/-- The pixel `EXPAND` writes at position `x` (R177). -/
def plainPixel (order : BitOrder) (m : Memory) (src : Nat) (p0 p1 : Pixel) (x : Nat) : Pixel :=
  if packedPixel order m src x then p1 else p0

/-- The pixel `EXPAND_WITH_OVERLAY` writes at position `x` (R178). -/
def overlayPixel (p : Platform) (m : Memory) (src : Nat) (p0 p1 : Pixel) (bg x : Nat) : Pixel :=
  if packedPixel p.bitOrder m src x then p1
  else blendUnset p.pixelWidth p.blend p0 (m.readPixel p.pixelWidth (bg + x * p.pixelWidth.bytes))

/-- `EXPAND(src, palette, dest, words_per_row)` (R177). -/
def expand (p : Platform) (m : Memory) (src : Nat) (p0 p1 : Pixel) (dest words : Nat) : Memory :=
  m.writeRun p.pixelWidth.bytes dest ((List.range (words * Config.bpw)).map (plainPixel p.bitOrder m src p0 p1))

/-- `EXPAND_WITH_OVERLAY(src, palette, dest, words_per_row, bg)` (R178). -/
def expandWithOverlay (p : Platform) (m : Memory) (src : Nat) (p0 p1 : Pixel) (dest words bg : Nat) : Memory :=
  m.writeRun p.pixelWidth.bytes dest ((List.range (words * Config.bpw)).map (overlayPixel p m src p0 p1 bg))

/-- The words of a range, lowest address first. -/
def wordsFrom (m : Memory) (a count : Nat) : List Word :=
  (List.range count).map fun j => m.readWord (a + j * Config.wordBytes)

/-- `COPY_WORDS(src, dst, word_count)` (R180). -/
def copyWords (m : Memory) (src dst count : Nat) : Memory :=
  m.writeRun Config.wordBytes dst (wordsFrom m src count)

/-- The range of `n` bytes at `a` leaves `[0, 2^ADDRW)` (20_memory.md R53). -/
def leavesSpace (a n : Nat) : Bool := decide (Config.addressSpace < a + n)

/-- Why a RASTERIZE of row `row` into `dest` has no meaning (93_implementation_defined.md U2 to U5), or none. A row of no
words touches no memory and violates nothing (log entry 13). -/
def State.rowRefusal (s : State) (row dest : Nat) : Option Refusal :=
  if s.wpl = 0 then none
  else if leavesSpace (s.sourceRow row) s.rowBytes then some .invalidPlane
  else if dest % s.pixBytes ≠ 0 then some .misalignedDestination
  else if leavesSpace dest s.pixelRowBytes then some .outsideAddressSpace
  else if rangesOverlap dest s.pixelRowBytes (s.sourceRow row) s.rowBytes then some .overlappingRows
  else if !s.bgPresent then none
  else if s.backgroundRow row % s.pixBytes ≠ 0 then some .misalignedBackground
  else if leavesSpace (s.backgroundRow row) s.pixelRowBytes then some .outsideAddressSpace
  else if rangesOverlap dest s.pixelRowBytes (s.backgroundRow row) s.pixelRowBytes then some .overlappingRows
  else none

/-- The request of step 4b of RASTERIZE (41_rasterize.md R115), and what memory holds after it. -/
def State.expandRow (s : State) (row dest : Nat) : Memory :=
  if s.bgPresent then
    expandWithOverlay s.platform s.mem (s.sourceRow row) s.palette0 s.palette1 dest s.wpl.toNat (s.backgroundRow row)
  else expand s.platform s.mem (s.sourceRow row) s.palette0 s.palette1 dest s.wpl.toNat

/-- Step 4 of RASTERIZE (41_rasterize.md R114, R115), or the refusal of a violated precondition. -/
def State.rasterRow (s : State) (row dest : Nat) : Except Refusal State :=
  match s.rowRefusal row dest with
  | some r => .error r
  | none => .ok { s with mem := s.expandRow row dest }

/-- The two planes are as the allocator contract makes them (R175): inside the address space and disjoint. -/
def State.planesValid (s : State) : Bool :=
  !leavesSpace s.frontBase.toNat (s.planeWords * Config.wordBytes) &&
    !leavesSpace s.backBase.toNat (s.planeWords * Config.wordBytes) &&
    !rangesOverlap s.frontBase.toNat (s.planeWords * Config.wordBytes) s.backBase.toNat (s.planeWords * Config.wordBytes)

/-- The request of COPY_TO_BACK (43_backbuffer.md R142): front to back, the whole plane. A plane of no words is not
touched; planes no allocator can have returned are refused (93_implementation_defined.md U2; log entry 14). -/
def State.copyFrontToBack (s : State) : Except Refusal State :=
  if s.planeWords = 0 then .ok s
  else if s.planesValid then
    .ok { s with mem := copyWords s.mem s.frontBase.toNat s.backBase.toNat s.planeWords }
  else .error .invalidPlane

end Sys2Proof.Machine
end

