-- ==== Sys2Proof/Machine/BackBuffer.lean ====
section
/-! DEFINITION. Back-buffer access: GET_BACK_BUFFER, MAKE_BACK_GRAPHICS, COPY_TO_BACK (43_backbuffer.md). -/

namespace Sys2Proof.Machine

/-- The descriptor of the back plane: pointer, line length in pixels, line count, stride in words (R140). -/
def State.describeBack (s : State) : State :=
  s.respond s.backBase (s.width.setWidth 32) (s.height.setWidth 32) (s.wpl.setWidth 32)

/-- `GET_BACK_BUFFER` (43_backbuffer.md R140). -/
def execGetBackBuffer (s : State) : Result := s.whenReady (.next s.describeBack)

/-- `MAKE_BACK_GRAPHICS` (43_backbuffer.md R141): the descriptor, or the fatal halt (60_exceptions.md R202). -/
def execMakeBackGraphics (s : State) : Result :=
  s.whenReady (.next (if s.bitAddressable s.backBase then s.describeBack else s.raiseFatal))

/-- `COPY_TO_BACK` (43_backbuffer.md R142). -/
def execCopyToBack (s : State) : Result :=
  s.whenReady <|
    match s.copyFrontToBack with
    | .ok t => .next t.done
    | .error r => .refused r

end Sys2Proof.Machine
end

