-- ==== Sys2Proof/Machine/FlipProtocol.lean ====
section
/-! DEFINITION. The flip protocol: PEND_FLIP, FLIP_NOW (42_flip.md). -/

namespace Sys2Proof.Machine

/-- `PEND_FLIP` (42_flip.md R130). -/
def execPendFlip (s : State) : Result := s.whenReady (.next { s with flipPending := true }.done)

/-- `FLIP_NOW` (42_flip.md R131). -/
def execFlipNow (s : State) : Result := s.whenReady (.next s.flip.done)

end Sys2Proof.Machine
end

