-- ==== Sys2Proof/Machine/Lifecycle.lean ====
section
/-! DEFINITION. Construction and destruction: INIT, INIT.BG, DESTROY (40_lifecycle.md). -/

namespace Sys2Proof.Machine

/-- The variables INIT writes once the allocator has answered (40_lifecycle.md R100); `bg` is `bg_addr` where given. -/
def State.construct (s : State) (width height topLine : Dim) (bg : Option Addr) (plane0 plane1 next : Nat) : State :=
  { s with
    mode := .ready, width := width, height := height, wpl := width / 32, topLine := topLine
    planeBase0 := BitVec.ofNat 32 plane0, planeBase1 := BitVec.ofNat 32 plane1
    activeIndex := false, flipPending := false
    palette0 := s.platform.palOff, palette1 := s.platform.palOn
    bgPresent := bg.isSome, bgBase := bg.getD 0
    arenaNext := next }

/-- INIT meets an allocator call that does not return (47_external_units.md R175; 95_test_vectors.md V7): no variable of
the block changes, no response is returned, and the allocator is stopped (log entry 10). -/
def State.allocationFails (s : State) : State := { s.noResponse with allocatorStopped := true }

/-- INIT once it is admitted and its width is aligned (40_lifecycle.md R100). -/
def State.initialiseAligned (s : State) (width height topLine : Dim) (bg : Option Addr) : State :=
  match s.allocatePlanes (width.toNat / Config.bpw * height.toNat) with
  | some (plane0, plane1, next) => (s.construct width height topLine bg plane0 plane1 next).done
  | none => s.allocationFails

/-- INIT and INIT.BG (40_lifecycle.md R100); a width that is no multiple of BPW is refused
(93_implementation_defined.md U1). -/
def State.initialise (s : State) (width height topLine : Dim) (bg : Option Addr) : Result :=
  s.whenUnconfigured <|
    if width.toNat % Config.bpw = 0 then .next (s.initialiseAligned width height topLine bg)
    else .refused .misalignedWidth

/-- `INIT width, height, top_line` (40_lifecycle.md R100). -/
def execInit (width height topLine : Dim) (s : State) : Result := s.initialise width height topLine none

/-- `INIT.BG width, height, top_line, bg_addr` (40_lifecycle.md R100). -/
def execInitBg (width height topLine : Dim) (bgAddr : Addr) (s : State) : Result :=
  s.initialise width height topLine (some bgAddr)

/-- `DESTROY` (40_lifecycle.md R101). -/
def execDestroy (s : State) : Result := s.whenReady (.next s.clearBlock.done)

end Sys2Proof.Machine
end

