-- ==== Sys2Proof/Machine/Palette.lean ====
section
/-! DEFINITION. Palette and background control: SET_FG_COLOR, SET_BG_COLOR, SET_BACKGROUND, CLR_BACKGROUND
(45_palette_background.md). -/

namespace Sys2Proof.Machine

/-- `SET_FG_COLOR color` (45_palette_background.md R160): palette entry 1. -/
def execSetFgColor (color : Pixel) (s : State) : Result :=
  s.withColor color (.next { s with palette1 := color }.done)

/-- `SET_BG_COLOR color` (45_palette_background.md R161): palette entry 0. -/
def execSetBgColor (color : Pixel) (s : State) : Result :=
  s.withColor color (.next { s with palette0 := color }.done)

/-- `SET_BACKGROUND addr` (45_palette_background.md R162). -/
def execSetBackground (addr : Addr) (s : State) : Result :=
  s.whenReady (.next { s with bgPresent := true, bgBase := addr }.done)

/-- `CLR_BACKGROUND` (45_palette_background.md R163). -/
def execClrBackground (s : State) : Result :=
  s.whenReady (.next { s with bgPresent := false, bgBase := 0 }.done)

end Sys2Proof.Machine
end

