-- ==== Sys2Proof/Machine/Rasterize.lean ====
section
/-! DEFINITION. The per-line command RASTERIZE (41_rasterize.md). -/

namespace Sys2Proof.Machine

/-- Step 2 (R112): the consumption, at local row 0 only. -/
def State.atLine (s : State) (line : Dim) : State := if s.localRow line = 0 then s.consumeFlip else s

/-- Steps 3 to 5 (R113 to R116): the zero-length descriptor of a line out of range, or the row and its descriptor. -/
def State.produceRow (s : State) (cpp : Cpp) (line : Dim) (dest : Addr) : Result :=
  match s.rowInRange line with
  | none => .next (s.respond 0 0 cpp 0)
  | some row =>
    match s.rasterRow row dest.toNat with
    | .ok t => .next (t.respond 0 (BitVec.ofNat 32 t.rowPixels) cpp 0)
    | .error r => .refused r

/-- `RASTERIZE cpp, line, dest` (41_rasterize.md R110). -/
def execRasterize (cpp : Cpp) (line : Dim) (dest : Addr) (s : State) : Result :=
  s.whenReady ((s.atLine line).produceRow cpp line dest)

end Sys2Proof.Machine
end

