-- ==== Sys2Proof/Machine/StatusRead.lean ====
section
/-! DEFINITION. Status read-back: READ_REG (46_status.md). -/

namespace Sys2Proof.Machine

/-- `READ_REG reg` (46_status.md R170); a reserved number is rejected with ERR_ILLEGAL (10_state.md R29; the decoder
already rejects it, 30_encoding.md R85; log entry 17). -/
def execReadReg (reg : BitVec 8) (s : State) : Result :=
  s.unlessHalted <| .next <|
    match s.regValue reg with
    | some v => s.respond v 0 0 0
    | none => s.reject .errIllegal

end Sys2Proof.Machine
end

