-- ==== Sys2Proof/Machine/Dispatch.lean ====
section
/-! DEFINITION. One arm per command: the one call of its meaning. -/

namespace Sys2Proof.Machine

def exec (i : Instr) (s : State) : Host.Outcome State Fault Refusal :=
  match i with
  | .init width height topLine => Sys2Proof.Machine.execInit width height topLine s
  | .initBg width height topLine bgAddr => Sys2Proof.Machine.execInitBg width height topLine bgAddr s
  | .destroy => Sys2Proof.Machine.execDestroy s
  | .rasterize cpp line dest => Sys2Proof.Machine.execRasterize cpp line dest s
  | .pendFlip => Sys2Proof.Machine.execPendFlip s
  | .flipNow => Sys2Proof.Machine.execFlipNow s
  | .getBackBuffer => Sys2Proof.Machine.execGetBackBuffer s
  | .makeBackGraphics => Sys2Proof.Machine.execMakeBackGraphics s
  | .copyToBack => Sys2Proof.Machine.execCopyToBack s
  | .planeIsBitAddressable sel => Sys2Proof.Machine.execPlaneIsBitAddressable sel s
  | .setFgColor color => Sys2Proof.Machine.execSetFgColor color s
  | .setBgColor color => Sys2Proof.Machine.execSetBgColor color s
  | .setBackground addr => Sys2Proof.Machine.execSetBackground addr s
  | .clrBackground => Sys2Proof.Machine.execClrBackground s
  | .readReg reg => Sys2Proof.Machine.execReadReg reg s

end Sys2Proof.Machine
end

