-- ==== Sys2Proof/Machine/Sequence.lean ====
section
/-! DEFINITION. The global sequence of 20_memory.md R62: what each of its steps does. A command is decoded and executed
(30_encoding.md R89) and its response goes back to its port (R86); a requester that gets no response is stuck
(00_scope.md R10; log entry 3); agents outside DBRC access memory between commands; the reset input takes a level
(70_reset_and_hazards.md R230; log entry 4). -/

namespace Sys2Proof.Machine

/-- What a port holds. -/
def State.port (s : State) : Port → PortState
  | .T => s.portT
  | .D => s.portD

/-- The state with a port's contents replaced. -/
def State.setPort (s : State) (p : Port) (v : PortState) : State :=
  match p with
  | .T => { s with portT := v }
  | .D => { s with portD := v }

/-- The other port. -/
def Port.other : Port → Port
  | .T => .D
  | .D => .T

/-- The agent of this port has presented a command that was never answered: it is stuck. -/
def State.portStuck (s : State) (p : Port) : Bool := (s.port p).waiting.isSome

/-- The agent is stuck: it waits for a response that does not come. -/
def State.agentStuck (s : State) : Agent → Bool
  | .consumer => s.portStuck .T
  | .producer => s.portStuck .D
  | .other => false

/-- An illegal command (60_exceptions.md R203, R208): ERR_ILLEGAL whatever the mode, but in HALTED no response. -/
def rejectIllegal (s : State) : Result := s.unlessHalted (.next (s.reject .errIllegal))

/-- The decoding procedure of 30_encoding.md R89, then the command's rule. -/
def execCommand (cmd : Command) (s : State) : Result :=
  match decode s.platform.pixelWidth cmd with
  | .ok i => exec i s
  | .error _ => rejectIllegal s

/-- The requester presents the command and gets no response: it waits, and is stuck. -/
def State.leaveWaiting (s : State) (p : Port) (cmd : Command) : State :=
  s.setPort p { s.port p with waiting := some cmd }

/-- The response goes back to the port the command came from (30_encoding.md R86); without one the requester waits. -/
def State.answer (s : State) (p : Port) (cmd : Command) : State :=
  match s.response with
  | some r => s.setPort p { s.port p with lastResponse := some r }
  | none => s.leaveWaiting p cmd

/-- What an answer of `exec` becomes once its response is returned to the port. -/
def returnTo (p : Port) (cmd : Command) : Result → Result
  | .next t => .next (t.answer p cmd)
  | .fault f => .fault f
  | .refused r => .refused r

/-- One command event. While reset is asserted the command is dropped without a response (70_reset_and_hazards.md R230).
A stuck requester presents nothing more. Else DBRC takes it, whatever the other port holds: neither context can block the
other but by halting DBRC (60_exceptions.md R215), and an INIT that never completes leaves only its own agent stuck
(00_scope.md R10). -/
def takeCommand (p : Port) (cmd : Command) (s : State) : Result :=
  if s.resetAsserted then .next s
  else if s.portStuck p then .next s
  else returnTo p cmd (execCommand cmd s)

/-- One memory write by an agent outside DBRC (20_memory.md R62 (b)); a stuck agent makes none. -/
def agentWrite (agent : Agent) (addr n v : Nat) (s : State) : Result :=
  if s.agentStuck agent then .next s
  else if leavesSpace addr n then .fault (.outsideAddressSpace agent)
  else .next { s with mem := s.mem.writeNat addr n v }

/-- One memory read by an agent outside DBRC (20_memory.md R62 (b), R58: no side effect on memory). -/
def agentRead (agent : Agent) (addr n : Nat) (s : State) : Result :=
  if s.agentStuck agent then .next s
  else if leavesSpace addr n then .fault (.outsideAddressSpace agent)
  else .next { s with lastRead := some (s.mem.readNat addr n) }

/-- The reset input takes a level (70_reset_and_hazards.md R230). -/
def setResetLine (asserted : Bool) (s : State) : State :=
  if asserted then { s.resetBlock with resetAsserted := true } else { s with resetAsserted := false }

/-- One step of the global sequence. -/
def handle (e : Event) (s : State) : Result :=
  match e with
  | .command p cmd => takeCommand p cmd s
  | .write agent addr n v => agentWrite agent addr n v s
  | .read agent addr n => agentRead agent addr n s
  | .resetLine asserted => .next (setResetLine asserted s)

/-- The state with the steps still to come replaced. -/
def State.advance (s : State) (rest : List Event) : State := { s with pending := rest }

/-- The next step of the sequence, or nothing: DBRC waits for a command (70_reset_and_hazards.md R230). -/
def stepEvent (s : State) : Result :=
  match s.pending with
  | [] => .next s
  | e :: rest => handle e (s.advance rest)

/-- The port on which `State.withFetchWord` presents its command. -/
abbrev fetchPort : Port := .D

/-- The state in which the next step takes the command `cmd`: it is presented before every other step to come, by a
requester that is not stuck, and reset is not asserted (log entry 2). -/
def State.present (s : State) (cmd : Command) : State :=
  { s with
    portT := s.portT.drop, portD := s.portD.drop, resetAsserted := false
    pending := .command fetchPort cmd :: s.pending }

end Sys2Proof.Machine
end

