-- ==== Sys2Proof/Machine/Step.lean ====
section
/-! DEFINITION. The step function, and how a command is put where the step takes its next one. -/

namespace Sys2Proof.Machine

/-- One step of the machine: the next step of the global sequence (20_memory.md R62). -/
def step (s : State) : Host.Outcome State Fault Refusal := stepEvent s

/-- `s` with the command of `commandOfBits nbits w` presented, so that the next step runs exactly it. -/
def State.withFetchWord (s : State) (nbits w : Nat) : State := s.present (commandOfBits nbits w)

end Sys2Proof.Machine
end

