-- ==== Sys2Proof/Safety.lean ====
section
/-! DEFINITION. What the statements speak of: the preconditions the spec puts on the caller (93_implementation_defined.md U1
to U5, 70_reset_and_hazards.md R239 to R241), the invariant of 10_state.md R28 and R36, the safe answers of
60_exceptions.md R217, and the conditions on a frame that 42_flip.md R134 and R135 name. -/

namespace Sys2Proof.Machine

/-- The byte ranges `[a, a + n)` and `[b, b + m)` have no byte in common. -/
abbrev Apart (a n b m : Nat) : Prop := n = 0 ∨ m = 0 ∨ a + n ≤ b ∨ b + m ≤ a

/-- The bytes of one plane (10_state.md R23). -/
abbrev State.planeBytes (s : State) : Nat := s.planeWords * Config.wordBytes

/-- What a RASTERIZE of row `row` into `dest` requires (20_memory.md R52, R53, R69): nothing where a row has no words;
else a pixel-aligned destination row and background row inside the address space, the destination row apart from the
rows read. -/
abbrev State.RowAllowed (s : State) (row dest : Nat) : Prop :=
  s.wpl = 0 ∨
    (s.sourceRow row + s.rowBytes ≤ Config.addressSpace ∧
      dest % s.pixBytes = 0 ∧ dest + s.pixelRowBytes ≤ Config.addressSpace ∧
      Apart dest s.pixelRowBytes (s.sourceRow row) s.rowBytes ∧
      (s.bgPresent = true →
        s.backgroundRow row % s.pixBytes = 0 ∧ s.backgroundRow row + s.pixelRowBytes ≤ Config.addressSpace ∧
          Apart dest s.pixelRowBytes (s.backgroundRow row) s.pixelRowBytes))

/-- What COPY_TO_BACK requires of the planes, and the allocator guarantees (47_external_units.md R175). -/
abbrev State.PlanesAllowed (s : State) : Prop :=
  s.planeBase0.toNat + s.planeBytes ≤ Config.addressSpace ∧ s.planeBase1.toNat + s.planeBytes ≤ Config.addressSpace ∧
    Apart s.planeBase0.toNat s.planeBytes s.planeBase1.toNat s.planeBytes

/-- Both allocator calls of an INIT of planes of `count` words are satisfied (47_external_units.md R175, R176); the last
clause excludes more than R176 does only for planes of 0 words at `ARENA_NEXT = 2^32` (log entry 11). -/
abbrev State.ArenaHasRoom (s : State) (count : Nat) : Prop :=
  s.allocatorStopped = false ∧ s.arenaNext + 2 * (count * Config.wordBytes) ≤ s.platform.arenaLimit ∧
    s.arenaNext + count * Config.wordBytes < Config.addressSpace

/-- The palette entries are PIXW-bit values (10_state.md R20, R26). -/
abbrev State.PaletteFits (s : State) : Prop :=
  s.platform.pixelWidth.fits s.palette0 = true ∧ s.platform.pixelWidth.fits s.palette1 = true

/-- Every variable of 10_state.md R20 but MODE has its reset value (R36). -/
structure State.Cleared (s : State) : Prop where
  width : s.width = 0
  height : s.height = 0
  wpl : s.wpl = 0
  topLine : s.topLine = 0
  planeBase0 : s.planeBase0 = 0
  planeBase1 : s.planeBase1 = 0
  activeIndex : s.activeIndex = false
  flipPending : s.flipPending = false
  palette0 : s.palette0 = 0
  palette1 : s.palette1 = 0
  bgPresent : s.bgPresent = false
  bgBase : s.bgBase = 0

/-- What construction establishes and every later command keeps (10_state.md R28 (1) and (6), 47_external_units.md R175):
WIDTH = WPL * BPW, and two word-aligned planes from the arena that do not overlap. -/
structure State.Constructed (s : State) : Prop where
  width : s.width.toNat = s.wpl.toNat * Config.bpw
  aligned0 : s.planeBase0.toNat % Config.wordBytes = 0
  aligned1 : s.planeBase1.toNat % Config.wordBytes = 0
  fromArena0 : s.platform.arenaBase ≤ s.planeBase0.toNat ∧ s.planeBase0.toNat + s.planeBytes ≤ s.arenaNext
  fromArena1 : s.platform.arenaBase ≤ s.planeBase1.toNat ∧ s.planeBase1.toNat + s.planeBytes ≤ s.arenaNext
  apart : Apart s.planeBase0.toNat s.planeBytes s.planeBase1.toNat s.planeBytes

/-- The invariant of the machine. -/
structure State.Inv (s : State) : Prop where
  /-- The parameters meet 00_scope.md R7. -/
  platform : s.platform.Valid
  /-- Memory is in canonical form. -/
  memory : s.mem.wf = true
  /-- ARENA_NEXT is word aligned and inside the arena (47_external_units.md R176). -/
  arena : s.arenaNext % Config.wordBytes = 0 ∧ s.platform.arenaBase ≤ s.arenaNext ∧
    s.arenaNext ≤ s.platform.arenaLimit
  /-- In UNCONFIGURED every variable reads 0 (10_state.md R36, 46_status.md R170). -/
  unconfigured : s.mode = .unconfigured → s.Cleared
  /-- Once constructed the geometry and the planes are sound (10_state.md R28). -/
  constructed : s.mode ≠ .unconfigured → s.Constructed
  /-- The palette entries are PIXW-bit values (10_state.md R20). -/
  palette : s.PaletteFits
  /-- An absent background has address 0 (10_state.md R27). -/
  background : s.bgPresent = false → s.bgBase = 0
  /-- While reset is asserted the block has its reset values (70_reset_and_hazards.md R230). -/
  resetHeld : s.resetAsserted = true → s.mode = .unconfigured
  /-- A requester is stuck only at a halted block or behind an INIT the allocator never answered
  (00_scope.md R10). -/
  waiting : s.portStuck .T = true ∨ s.portStuck .D = true →
    s.mode = .halted ∨ (s.mode = .unconfigured ∧ s.allocatorStopped = true)
  /-- A halted block has a requester without a response (60_exceptions.md R202). -/
  halted : s.mode = .halted → s.portStuck .T = true ∨ s.portStuck .D = true

/-- A safe answer (60_exceptions.md R217): a next state with FATAL = 0. A returned rejection, ERR_ILLEGAL or ERR_STATE, is
safe: R204, R217 and 93_implementation_defined.md I7 leave that to the model, and it is the model's choice (DESIGN CHOICE,
log entry 25). -/
def safeAnswer : Result → Bool
  | .next t => !t.fatal
  | .fault _ => false
  | .refused _ => false

/-- The command violates no precondition of the spec in this state: INIT's width is aligned
(93_implementation_defined.md U1), an in-range RASTERIZE's row is allowed (U2 to U5), MAKE_BACK_GRAPHICS finds the back
plane bit-addressable (60_exceptions.md R202). -/
def State.Permits (s : State) : Instr → Prop
  | .init width _ _ => s.mode = .unconfigured → width.toNat % Config.bpw = 0
  | .initBg width _ _ _ => s.mode = .unconfigured → width.toNat % Config.bpw = 0
  | .rasterize _ line dest =>
    s.mode = .ready → ∀ row, s.rowInRange line = some row → (s.atLine line).RowAllowed row dest.toNat
  | .makeBackGraphics => s.mode = .ready → s.bitAddressable s.backBase = true
  | _ => True

/-- The byte range `[a, a + n)` has no byte of the front plane. -/
def State.sparesFront (s : State) (a n : Nat) : Bool := !rangesOverlap a n s.frontBase.toNat s.planeBytes

/-- An event that leaves the frame being shown whole (42_flip.md R135): no flip by hand, no end of the rasterizer, no
second consumption (41_rasterize.md R118: line numbers of a frame strictly increase from TOP_LINE on), no write, by an
agent or through a destination row, to the front plane (20_memory.md R63, 70_reset_and_hazards.md R239). -/
def State.keepsFrame (s : State) : Event → Bool
  | .command _ cmd =>
    match decode s.platform.pixelWidth cmd with
    | .ok .flipNow => false
    | .ok .destroy => false
    | .ok (.rasterize _ line dest) => line != s.topLine && s.sparesFront dest.toNat s.pixelRowBytes
    | _ => true
  | .write _ a n _ => s.sparesFront a n
  | .read _ _ _ => true
  | .resetLine asserted => !asserted

/-- An event between two consumptions that flips nothing by hand and ends nothing (42_flip.md R134): no FLIP_NOW, no
DESTROY, no reset, no RASTERIZE of line TOP_LINE. -/
def State.betweenConsumptions (s : State) : Event → Bool
  | .command _ cmd =>
    match decode s.platform.pixelWidth cmd with
    | .ok .flipNow => false
    | .ok .destroy => false
    | .ok (.rasterize _ line _) => line != s.topLine
    | _ => true
  | .write _ _ _ _ => true
  | .read _ _ _ => true
  | .resetLine asserted => !asserted

/-- The event is a PEND_FLIP command. -/
def State.requestsFlip (s : State) : Event → Bool
  | .command _ cmd =>
    match decode s.platform.pixelWidth cmd with
    | .ok .pendFlip => true
    | _ => false
  | _ => false

/-- The event is a RASTERIZE of line `line`. -/
def State.rasterizesLine (s : State) (line : Dim) : Event → Bool
  | .command _ cmd =>
    match decode s.platform.pixelWidth cmd with
    | .ok (.rasterize _ l _) => l == line
    | _ => false
  | _ => false

end Sys2Proof.Machine
end

