-- ==== Sys2Proof/Certificates/Slice0/Obligations.lean ====
section
/-! DEFINITION. The statements, each with the rule of spec/ it speaks of. -/

open Sys2Proof Sys2Proof.Machine

/-! ### Encoding and decoding (30_encoding.md) -/

/-- For every pixel width, every well-formed instruction, with every operand at every value, is read back from its encoding
(R82, R83, R84). -/
def Obligations.DecodeOfEncode : Prop :=
  ∀ (w : PixelWidth) (i : Instr), i.WellFormed w → decode w (encode i) = .ok i

/-- A command the decoder accepts is the encoding of a well-formed instruction: no legal command has two readings and no
bit of one is dropped (R82, R85). -/
def Obligations.EncodeOfDecode : Prop :=
  ∀ (w : PixelWidth) (c : Command) (i : Instr), decode w c = .ok i → i.WellFormed w ∧ encode i = c

/-- The decoder accepts a command under a mnemonic exactly when the row of that mnemonic in spec/opcode_table.json admits
it, for READ_REG with a register number of at most 9, for a color command with `W1[31:PIXW] = 0` (R84, R85). -/
def Obligations.DecodeMatchesOpcodeTable : Prop :=
  ∀ (w : PixelWidth) (c : Command) (name : String),
    (∃ i, decode w c = .ok i ∧ i.mnemonic = name) ↔
      ∃ r ∈ opcodeTable, r.mnemonic = name ∧ r.admits c = true ∧ (name = "READ_REG" → c.sub.toNat ≤ 9) ∧
        (name = "SET_FG_COLOR" ∨ name = "SET_BG_COLOR" → c.w1.toNat < 2 ^ w.bits)

/-- No command belongs to two rows of the opcode table (R84). -/
def Obligations.OpcodeTableRowsAreDisjoint : Prop :=
  ∀ (c : Command) (r₁ r₂ : Row), r₁ ∈ opcodeTable → r₂ ∈ opcodeTable → r₁.admits c = true → r₂.admits c = true → r₁ = r₂

/-- Eight command words written out in the spec's worked examples (95_test_vectors.md; READ_REG in 46_status.md R170) decode
to the commands they stand for (R84): seven whatever the pixel width, and SET_FG_COLOR 0xFFFFFF where PIXW is 32. Where PIXW
is 16 or 8 that last word has reserved bits set, so it is illegal (R82, R85); the name the decoder gives the cause is the
model's choice, log entry 21. -/
def Obligations.WorkedExampleWordsDecode : Prop :=
  (∀ w : PixelWidth,
    decode w 0x0100000001E002800000000000000000 = .ok (.init 640 480 0) ∧
      decode w 0x01010000000200200000000520002000 = .ok (.initBg 32 2 5 0x20002000) ∧
      decode w 0x10000000000000040000000A20020000 = .ok (.rasterize 4 10 0x20020000) ∧
      decode w 0x40030000000000000000000000000000 = .ok (.planeIsBitAddressable .back) ∧
      decode w 0x51000000000000800000000000000000 = .ok (.setBgColor 0x80) ∧
      decode w 0x52010000000000000000000020030000 = .ok (.setBackground 0x20030000) ∧
      decode w 0x60060000000000000000000000000000 = .ok (.readReg 6)) ∧
    decode .w32 0x5000000000FFFFFF0000000000000000 = .ok (.setFgColor 0xFFFFFF) ∧
    decode .w16 0x5000000000FFFFFF0000000000000000 = .error .reservedOperandBits ∧
    decode .w8 0x5000000000FFFFFF0000000000000000 = .error .reservedOperandBits

/-- A response on the wires: the status code in the highest byte, then R0 to R3 (R86); the three codes (R87). -/
def Obligations.ResponseWires : Prop :=
  (∀ r : Response, r.bits.toNat = r.st.code.toNat * 2 ^ 128 + r.r0.toNat * 2 ^ 96 + r.r1.toNat * 2 ^ 64 +
      r.r2.toNat * 2 ^ 32 + r.r3.toNat) ∧
    Status.ok.code = 0x00 ∧ Status.errIllegal.code = 0x01 ∧ Status.errState.code = 0x02 ∧
    ∀ st : Status, st.code.toNat < 3

/-! ### The step -/

/-- A step at which a free requester presents a legal command runs that command's instruction; its response goes to the
port it came from, and a requester that gets none waits (R80, R86; 00_scope.md R10; log entries 2 and 3). -/
def Obligations.StepRunsTheDecodedCommand : Prop :=
  ∀ (s : State) (p : Port) (cmd : Command) (rest : List Event) (i : Instr),
    s.pending = .command p cmd :: rest → s.resetAsserted = false → s.portStuck p = false →
    decode s.platform.pixelWidth cmd = .ok i →
      step s =
        match exec i { s with pending := rest } with
        | .next t =>
          match t.response with
          | some r => .next (t.setPort p { t.port p with lastResponse := some r })
          | none => .next (t.setPort p { t.port p with waiting := some cmd })
        | .fault f => .fault f
        | .refused r => .refused r

/-- The two ports decode identically and every command is accepted on either: what a command does to all but the ports
does not depend on the port that presents it (R80; 60_exceptions.md R212). -/
def Obligations.PortDoesNotMatter : Prop :=
  ∀ (s t : State) (p q : Port) (cmd : Command) (rest : List Event),
    s.portStuck .T = false → s.portStuck .D = false →
    step { s with pending := .command p cmd :: rest } = .next t →
      ∃ u, step { s with pending := .command q cmd :: rest } = .next u ∧
        { u with portT := s.portT, portD := s.portD } = { t with portT := s.portT, portD := s.portD }

/-- Neither context blocks the other through DBRC but by halting it: a step that takes a command does the same whatever the
other port holds, and in UNCONFIGURED every command but INIT and INIT.BG gets its response, also while the other context
waits for an INIT that never completes (60_exceptions.md R215; 93_implementation_defined.md I11). -/
def Obligations.ContextsDoNotBlockEachOther : Prop :=
  ∀ (s : State) (p : Port) (cmd : Command) (rest : List Event), s.pending = .command p cmd :: rest →
    (∀ v : PortState, step (s.setPort p.other v) =
      match step s with
      | .next t => .next (t.setPort p.other v)
      | .fault f => .fault f
      | .refused r => .refused r) ∧
    (s.mode = .unconfigured → s.resetAsserted = false → s.portStuck p = false →
      (∀ w h l, decode s.platform.pixelWidth cmd ≠ .ok (.init w h l)) →
      (∀ w h l a, decode s.platform.pixelWidth cmd ≠ .ok (.initBg w h l a)) →
        ∃ t r, step s = .next t ∧ t.response = some r ∧ t.port p = ⟨none, some r⟩ ∧ t.port p.other = s.port p.other)

/-- An illegal command is rejected with ERR_ILLEGAL and results 0, and nothing changes but the response, unless the block
is halted (60_exceptions.md R203, R208). -/
def Obligations.IllegalCommandIsRejected : Prop :=
  ∀ (s : State) (p : Port) (cmd : Command) (rest : List Event) (e : Illegal),
    s.pending = .command p cmd :: rest → s.resetAsserted = false → s.portStuck p = false →
    s.mode ≠ .halted → decode s.platform.pixelWidth cmd = .error e →
      Status.errIllegal.code = 0x01 ∧
        step s = .next
          (State.setPort { s with pending := rest, response := some ⟨.errIllegal, 0, 0, 0, 0⟩ } p
            { s.port p with lastResponse := some ⟨.errIllegal, 0, 0, 0, 0⟩ })

/-- A legal command that the mode does not admit is rejected with ERR_STATE and results 0, with no other effect
(60_exceptions.md R204). -/
def Obligations.WrongModeIsRejected : Prop :=
  Status.errState.code = 0x02 ∧ ∀ s : State,
    (s.mode = .unconfigured → ∀ i : Instr, i.WellFormed s.platform.pixelWidth →
      (∀ w h t, i ≠ .init w h t) → (∀ w h t a, i ≠ .initBg w h t a) → (∀ r, i ≠ .readReg r) →
        exec i s = .next { s with response := some ⟨.errState, 0, 0, 0, 0⟩ }) ∧
      (s.mode = .ready → ∀ w h t a,
        exec (.init w h t) s = .next { s with response := some ⟨.errState, 0, 0, 0, 0⟩ } ∧
          exec (.initBg w h t a) s = .next { s with response := some ⟨.errState, 0, 0, 0, 0⟩ })

/-- In HALTED no instruction has an effect or a response (60_exceptions.md R208 (1)). -/
def Obligations.HaltedInstructionsDoNothing : Prop :=
  ∀ (i : Instr) (s : State), s.mode = .halted → exec i s = .next { s with response := none }

/-- A halted block answers no command, legal or not, on either port: the step leaves its variables, memory and the
allocator as they are, and the requester is stuck without a response (30_encoding.md R89 (1); 60_exceptions.md R202; how a
requester is stuck is the model's choice, log entry 3). -/
def Obligations.HaltedBlockNeverAnswers : Prop :=
  ∀ (s : State) (p : Port) (cmd : Command) (rest : List Event),
    s.pending = .command p cmd :: rest → s.resetAsserted = false → s.mode = .halted →
      ∃ t, step s = .next t ∧ t.portStuck p = true ∧ (t.port p).lastResponse = (s.port p).lastResponse ∧
        { t with response := s.response, portT := s.portT, portD := s.portD, pending := s.pending } = s

/-- A stuck requester's agent takes no further step (00_scope.md R10: the issuing agent is stuck; the model's reading,
log entry 3). -/
def Obligations.StuckAgentActsNoMore : Prop :=
  ∀ (s : State) (rest : List Event) (a n v : Nat) (cmd : Command),
    (s.portStuck .T = true →
      step { s with pending := .command .T cmd :: rest } = .next { s with pending := rest } ∧
        step { s with pending := .write .consumer a n v :: rest } = .next { s with pending := rest } ∧
        step { s with pending := .read .consumer a n :: rest } = .next { s with pending := rest }) ∧
      (s.portStuck .D = true →
        step { s with pending := .command .D cmd :: rest } = .next { s with pending := rest } ∧
          step { s with pending := .write .producer a n v :: rest } = .next { s with pending := rest } ∧
          step { s with pending := .read .producer a n :: rest } = .next { s with pending := rest })

/-- A memory access by an agent outside DBRC is one step: a write changes the addressed bytes, a read returns them and
changes nothing else (20_memory.md R62 (b), R58); outside the address space it is the fault of log entry 18. -/
def Obligations.OutsideAgentsAccessMemory : Prop :=
  ∀ (s : State) (agent : Agent) (a n v : Nat) (rest : List Event), s.agentStuck agent = false →
    (a + n ≤ 2 ^ 32 →
      (∃ t, step { s with pending := .write agent a n v :: rest } = .next t ∧
        { t with mem := s.mem } = { s with pending := rest } ∧
        t.mem.readNat a n = v % 256 ^ n ∧ ∀ b, (b < a ∨ a + n ≤ b) → t.mem.read b = s.mem.read b) ∧
      step { s with pending := .read agent a n :: rest } =
        .next { s with pending := rest, lastRead := some (s.mem.readNat a n) }) ∧
    (2 ^ 32 < a + n →
      step { s with pending := .write agent a n v :: rest } = .fault (.outsideAddressSpace agent) ∧
        step { s with pending := .read agent a n :: rest } = .fault (.outsideAddressSpace agent))

/-! ### Reset (10_state.md R36; 70_reset_and_hazards.md R230) -/

/-- A reset, in any state, gives every variable of the block its reset value and leaves memory and ARENA_NEXT alone;
the state right after reset, with any parameters, has the same values (R36). -/
def Obligations.ResetGivesTheResetValues : Prop :=
  (∀ (s : State) (rest : List Event), s.pending = .resetLine true :: rest →
    ∃ t, step s = .next t ∧ t.mode = .unconfigured ∧ t.Cleared ∧ t.fatal = false ∧
      t.mem = s.mem ∧ t.arenaNext = s.arenaNext) ∧
    ∀ p : Platform,
      (State.resetOn p).mode = .unconfigured ∧ (State.resetOn p).Cleared ∧ (State.resetOn p).fatal = false

/-- While reset is asserted a command is dropped: no effect, no response, and its requester is not stuck by it; asserting
reset drops what the ports hold, without a response (70_reset_and_hazards.md R230; that the requester goes on is the
model's choice, log entry 4). -/
def Obligations.CommandUnderResetIsDropped : Prop :=
  (∀ (s : State) (p : Port) (cmd : Command) (rest : List Event),
    s.pending = .command p cmd :: rest → s.resetAsserted = true → step s = .next { s with pending := rest }) ∧
    ∀ (s : State) (p : Port) (rest : List Event), s.pending = .resetLine true :: rest →
      ∃ t, step s = .next t ∧ t.resetAsserted = true ∧ t.portStuck p = false ∧
        (t.port p).lastResponse = (s.port p).lastResponse ∧ t.pending = rest

/-- HALTED is left only by a reset, which gives the reset values (60_exceptions.md R210). -/
def Obligations.OnlyResetLeavesHalted : Prop :=
  ∀ s t : State, s.mode = .halted → step s = .next t →
    t.mode = .halted ∨ ∃ rest, s.pending = .resetLine true :: rest ∧ t.mode = .unconfigured ∧ t.Cleared

/-! ### Construction and destruction (40_lifecycle.md) -/

/-- INIT and INIT.BG with an aligned width and room in the arena complete and write every variable as R100 says; the plane
addresses are those of the reference allocator (47_external_units.md R176; the model's choice, log entry 9). -/
def Obligations.ConstructionWritesEveryVariable : Prop :=
  ∀ (s : State) (width height topLine : Dim) (bgAddr : Addr) (count : Nat), s.mode = .unconfigured →
    width.toNat % 32 = 0 → count = width.toNat / 32 * height.toNat → s.ArenaHasRoom count →
      exec (.init width height topLine) s = .next
        { s with
          mode := .ready, width := width, height := height, wpl := BitVec.ofNat 16 (width.toNat / 32)
          topLine := topLine, planeBase0 := BitVec.ofNat 32 s.arenaNext
          planeBase1 := BitVec.ofNat 32 (s.arenaNext + 4 * count), palette0 := s.platform.palOff
          palette1 := s.platform.palOn, activeIndex := false, flipPending := false, bgPresent := false, bgBase := 0
          arenaNext := s.arenaNext + 8 * count, response := some ⟨.ok, 0, 0, 0, 0⟩ } ∧
      exec (.initBg width height topLine bgAddr) s = .next
        { s with
          mode := .ready, width := width, height := height, wpl := BitVec.ofNat 16 (width.toNat / 32)
          topLine := topLine, planeBase0 := BitVec.ofNat 32 s.arenaNext
          planeBase1 := BitVec.ofNat 32 (s.arenaNext + 4 * count), palette0 := s.platform.palOff
          palette1 := s.platform.palOn, activeIndex := false, flipPending := false, bgPresent := true, bgBase := bgAddr
          arenaNext := s.arenaNext + 8 * count, response := some ⟨.ok, 0, 0, 0, 0⟩ }

/-- An INIT whose allocator calls do not both return never completes: no response, and no variable of the block, memory
or ARENA_NEXT changes; only the allocator is stopped (47_external_units.md R175). The allocator and what its failure leaves
are the model's choices, log entries 9 and 10. Among the calls that do not return is one for 0 words where ARENA_NEXT is
2^32, the address it would return not existing: R176 alone does not say so, it is log entry 11. -/
def Obligations.ConstructionWithoutRoomNeverCompletes : Prop :=
  ∀ (s : State) (width height topLine : Dim) (bgAddr : Addr), s.mode = .unconfigured → width.toNat % 32 = 0 →
    ¬ s.ArenaHasRoom (width.toNat / 32 * height.toNat) →
      exec (.init width height topLine) s = .next { s with response := none, allocatorStopped := true } ∧
        exec (.initBg width height topLine bgAddr) s = .next { s with response := none, allocatorStopped := true }

/-- An INIT whose width is no multiple of BPW has no meaning (93_implementation_defined.md U1). -/
def Obligations.MisalignedWidthIsRefused : Prop :=
  ∀ (s : State) (width height topLine : Dim) (bgAddr : Addr), s.mode = .unconfigured → width.toNat % 32 ≠ 0 →
    exec (.init width height topLine) s = .refused .misalignedWidth ∧
      exec (.initBg width height topLine bgAddr) s = .refused .misalignedWidth

/-- Construction yields two planes of WPL * HEIGHT words that do not overlap each other, nor anything allocated before
(10_state.md R28 (1), R37; 95_test_vectors.md T1; the allocator is the model's choice, log entry 9). -/
def Obligations.ConstructedPlanesAreFreshAndApart : Prop :=
  ∀ (s t : State) (i : Instr), s.Inv → s.mode = .unconfigured → exec i s = .next t → t.mode = .ready →
    t.Constructed ∧ s.arenaNext ≤ t.planeBase0.toNat ∧ s.arenaNext ≤ t.planeBase1.toNat ∧
      t.arenaNext = s.arenaNext + 2 * t.planeBytes

/-- DESTROY: its one encoding, its effect in READY (every variable to its reset value, nothing else touched), its rejection
in UNCONFIGURED, no response in HALTED, and every other command with its opcode illegal (R101). -/
def Obligations.DestroyClearsTheBlock : Prop :=
  (∀ (w : PixelWidth) (c : Command), decode w c = .ok .destroy ↔ c = 0x02000000000000000000000000000000) ∧
    (∀ (w : PixelWidth) (c : Command), c.opc = 0x02 → c ≠ 0x02000000000000000000000000000000 → ∃ e, decode w c = .error e) ∧
    ∀ s : State,
      (s.mode = .ready → exec .destroy s = .next
        { s with
          mode := .unconfigured, width := 0, height := 0, wpl := 0, topLine := 0, planeBase0 := 0, planeBase1 := 0
          activeIndex := false, flipPending := false, palette0 := 0, palette1 := 0, bgPresent := false, bgBase := 0
          response := some ⟨.ok, 0, 0, 0, 0⟩ }) ∧
      (s.mode = .unconfigured → exec .destroy s = .next { s with response := some ⟨.errState, 0, 0, 0, 0⟩ }) ∧
      (s.mode = .halted → exec .destroy s = .next { s with response := none })

/-! ### RASTERIZE (41_rasterize.md) -/

/-- A line out of range completes with the zero-length descriptor and touches no memory; at local row 0 (HEIGHT = 0) it
still consumes a pending flip (R111, R112, R113). -/
def Obligations.RasterizeOutOfRangeLine : Prop :=
  ∀ (s : State) (cpp : Cpp) (line : Dim) (dest : Addr), s.mode = .ready →
    (line.toNat < s.topLine.toNat ∨ s.topLine.toNat + s.height.toNat ≤ line.toNat) →
      exec (.rasterize cpp line dest) s = .next
        { s with
          flipPending := if line = s.topLine then false else s.flipPending
          activeIndex := if line = s.topLine ∧ s.flipPending = true then !s.activeIndex else s.activeIndex
          response := some ⟨.ok, 0, 0, cpp, 0⟩ }

/-- A line in range, without a background, completes: a pending flip is consumed first at local row 0; then pixel `x` of
the destination row is the palette entry that bit `x` of the front plane's row selects, every other byte of memory is
unchanged, the descriptor is `0, WPL * BPW, cpp, 0`, and nothing else changes (R112, R114, R115, R116; R177). -/
def Obligations.RasterizeDrawsThePlainRow : Prop :=
  ∀ (s f : State) (cpp : Cpp) (line : Dim) (dest : Addr) (row : Nat), s.mode = .ready →
    line.toNat = s.topLine.toNat + row → row < s.height.toNat →
    f = { s with
          flipPending := if row = 0 then false else s.flipPending
          activeIndex := if row = 0 ∧ s.flipPending = true then !s.activeIndex else s.activeIndex } →
    s.bgPresent = false → s.PaletteFits → f.RowAllowed row dest.toNat →
      ∃ t, exec (.rasterize cpp line dest) s = .next t ∧
        t.response = some ⟨.ok, 0, BitVec.ofNat 32 (s.wpl.toNat * 32), cpp, 0⟩ ∧
        { t with mem := f.mem, response := f.response } = f ∧
        (∀ b, (b < dest.toNat ∨ dest.toNat + s.wpl.toNat * 32 * s.pixBytes ≤ b) → t.mem.read b = s.mem.read b) ∧
        ∀ x, x < s.wpl.toNat * 32 →
          t.mem.readPixel s.platform.pixelWidth (dest.toNat + x * s.pixBytes) =
            if (s.mem.readWord ((if f.activeIndex then s.planeBase1 else s.planeBase0).toNat +
                  row * s.wpl.toNat * 4 + x / 32 * 4)).getLsbD
                (match s.platform.bitOrder with
                  | .lsbFirst => x % 32
                  | .msbFirst => 31 - x % 32) = true
            then s.palette1 else s.palette0

/-- The same with a background: a set bit shows palette entry 1, an unset bit the blend of palette entry 0 and the pixel
of the parallel background row (R115; 47_external_units.md R178, R179). -/
def Obligations.RasterizeDrawsTheOverlayRow : Prop :=
  ∀ (s f : State) (cpp : Cpp) (line : Dim) (dest : Addr) (row : Nat), s.mode = .ready →
    line.toNat = s.topLine.toNat + row → row < s.height.toNat →
    f = { s with
          flipPending := if row = 0 then false else s.flipPending
          activeIndex := if row = 0 ∧ s.flipPending = true then !s.activeIndex else s.activeIndex } →
    s.bgPresent = true → s.PaletteFits → f.RowAllowed row dest.toNat →
      ∃ t, exec (.rasterize cpp line dest) s = .next t ∧
        t.response = some ⟨.ok, 0, BitVec.ofNat 32 (s.wpl.toNat * 32), cpp, 0⟩ ∧
        { t with mem := f.mem, response := f.response } = f ∧
        (∀ b, (b < dest.toNat ∨ dest.toNat + s.wpl.toNat * 32 * s.pixBytes ≤ b) → t.mem.read b = s.mem.read b) ∧
        ∀ x, x < s.wpl.toNat * 32 →
          t.mem.readPixel s.platform.pixelWidth (dest.toNat + x * s.pixBytes) =
            if (s.mem.readWord ((if f.activeIndex then s.planeBase1 else s.planeBase0).toNat +
                  row * s.wpl.toNat * 4 + x / 32 * 4)).getLsbD
                (match s.platform.bitOrder with
                  | .lsbFirst => x % 32
                  | .msbFirst => 31 - x % 32) = true
            then s.palette1
            else
              (match s.platform.blend with
                | .background => s.mem.readPixel s.platform.pixelWidth
                    (s.bgBase.toNat + row * s.wpl.toNat * 32 * s.pixBytes + x * s.pixBytes)
                | .other => BitVec.ofNat 32
                    ((Config.overlayUnset s.platform.pixelWidth s.palette0
                      (s.mem.readPixel s.platform.pixelWidth
                        (s.bgBase.toNat + row * s.wpl.toNat * 32 * s.pixBytes + x * s.pixBytes))).toNat %
                          2 ^ s.platform.pixelWidth.bits))

/-- A line in range completes exactly when its row's preconditions hold, and is refused otherwise
(93_implementation_defined.md U2 to U5; R119). -/
def Obligations.RasterizeRunsExactlyWhenAllowed : Prop :=
  ∀ (s f : State) (cpp : Cpp) (line : Dim) (dest : Addr) (row : Nat), s.mode = .ready →
    line.toNat = s.topLine.toNat + row → row < s.height.toNat →
    f = { s with
          flipPending := if row = 0 then false else s.flipPending
          activeIndex := if row = 0 ∧ s.flipPending = true then !s.activeIndex else s.activeIndex } →
      (f.RowAllowed row dest.toNat → ∃ t, exec (.rasterize cpp line dest) s = .next t) ∧
        (¬ f.RowAllowed row dest.toNat → ∃ r, exec (.rasterize cpp line dest) s = .refused r)

/-- The row drawn depends on no memory but the front plane's row and, under overlay, the background row
(20_memory.md R58, R63): the same line over memories that agree there draws the same pixels. -/
def Obligations.RasterizeReadsOnlyItsRows : Prop :=
  ∀ (s t u : State) (m : Memory) (cpp : Cpp) (line : Dim) (dest : Addr) (row x : Nat), s.mode = .ready →
    line.toNat = s.topLine.toNat + row → row < s.height.toNat →
    (∀ b, (if row = 0 ∧ s.flipPending = true then s.backBase else s.frontBase).toNat + row * s.wpl.toNat * 4 ≤ b →
      b < (if row = 0 ∧ s.flipPending = true then s.backBase else s.frontBase).toNat + (row + 1) * s.wpl.toNat * 4 →
        m.read b = s.mem.read b) →
    (s.bgPresent = true → ∀ b, s.bgBase.toNat + row * s.wpl.toNat * 32 * s.pixBytes ≤ b →
      b < s.bgBase.toNat + (row + 1) * s.wpl.toNat * 32 * s.pixBytes → m.read b = s.mem.read b) →
    exec (.rasterize cpp line dest) s = .next t → exec (.rasterize cpp line dest) { s with mem := m } = .next u →
    x < s.wpl.toNat * 32 →
      u.mem.readPixel s.platform.pixelWidth (dest.toNat + x * s.pixBytes) =
        t.mem.readPixel s.platform.pixelWidth (dest.toNat + x * s.pixBytes)

/-! ### The flip protocol (42_flip.md) -/

/-- PEND_FLIP: its one encoding, its effect in READY, its rejection in UNCONFIGURED, no response in HALTED, and every
other command with its opcode illegal (R130). -/
def Obligations.PendFlipSetsThePendingFlag : Prop :=
  (∀ (w : PixelWidth) (c : Command), decode w c = .ok .pendFlip ↔ c = 0x20000000000000000000000000000000) ∧
    (∀ (w : PixelWidth) (c : Command), c.opc = 0x20 → c ≠ 0x20000000000000000000000000000000 → ∃ e, decode w c = .error e) ∧
    ∀ s : State,
      (s.mode = .ready →
        exec .pendFlip s = .next { s with flipPending := true, response := some ⟨.ok, 0, 0, 0, 0⟩ }) ∧
      (s.mode = .unconfigured → exec .pendFlip s = .next { s with response := some ⟨.errState, 0, 0, 0, 0⟩ }) ∧
      (s.mode = .halted → exec .pendFlip s = .next { s with response := none })

/-- FLIP_NOW: its one encoding, its effect in READY, its rejection in UNCONFIGURED, no response in HALTED, and every
other command with its opcode illegal (R131). -/
def Obligations.FlipNowTogglesTheActivePlane : Prop :=
  (∀ (w : PixelWidth) (c : Command), decode w c = .ok .flipNow ↔ c = 0x21000000000000000000000000000000) ∧
    (∀ (w : PixelWidth) (c : Command), c.opc = 0x21 → c ≠ 0x21000000000000000000000000000000 → ∃ e, decode w c = .error e) ∧
    ∀ s : State,
      (s.mode = .ready →
        exec .flipNow s = .next { s with activeIndex := !s.activeIndex, response := some ⟨.ok, 0, 0, 0, 0⟩ }) ∧
      (s.mode = .unconfigured → exec .flipNow s = .next { s with response := some ⟨.errState, 0, 0, 0, 0⟩ }) ∧
      (s.mode = .halted → exec .flipNow s = .next { s with response := none })

/-- The flip FSM: what every command does to the pair (ACTIVE_INDEX, FLIP_PENDING) in READY; INIT enters at (0, 0);
reset leaves both bits 0 (R132). -/
def Obligations.FlipFsmTransitions : Prop :=
  (∀ (s t : State) (i : Instr), s.mode = .ready → exec i s = .next t →
    (t.activeIndex, t.flipPending) =
      match i with
      | .pendFlip => (s.activeIndex, true)
      | .flipNow => (!s.activeIndex, s.flipPending)
      | .destroy => (false, false)
      | .rasterize _ line _ =>
        if line = s.topLine then (if s.flipPending then !s.activeIndex else s.activeIndex, false)
        else (s.activeIndex, s.flipPending)
      | _ => (s.activeIndex, s.flipPending)) ∧
    (∀ (s t : State) (i : Instr), s.mode = .unconfigured → exec i s = .next t → t.mode = .ready →
      (t.activeIndex, t.flipPending) = (false, false)) ∧
    ∀ (s t : State) (rest : List Event), s.pending = .resetLine true :: rest → step s = .next t →
      (t.activeIndex, t.flipPending) = (false, false)

/-- Flip requests coalesce: over any run of steps from one consumption to the next with no FLIP_NOW, DESTROY or reset
between, whatever the other agents do, the consumption that ends it flips exactly once if at least one PEND_FLIP came
(or a flip was already pending) and not at all otherwise, and clears the flag; before it nothing flips (R134 (a) and (b);
R133). -/
def Obligations.FlipRequestsCoalesce : Prop :=
  ∀ (k : Nat) (s t u : State) (e : Event) (rest : List Event), s.Inv → s.mode = .ready →
    (∀ e ∈ s.pending.take k, s.betweenConsumptions e = true) →
    Host.Core.run Sys2Proof.core k s = .next t → t.mode = .ready →
    t.pending = e :: rest → s.rasterizesLine s.topLine e = true → step t = .next u →
      t.activeIndex = s.activeIndex ∧
        u.activeIndex = (s.activeIndex != (s.flipPending || (s.pending.take k).any s.requestsFlip)) ∧ u.flipPending = false

/-- Tear-freedom: over any run of steps that keep the frame's conditions (the Timing Driver consumes no second time, no
FLIP_NOW, DESTROY or reset, nothing writes the front plane) every row of the frame is read from the same plane, and that
plane holds the same bytes throughout (R135). -/
def Obligations.FrameIsReadFromOneUnchangedPlane : Prop :=
  ∀ (k : Nat) (s t : State), s.Inv → s.mode ≠ .unconfigured → (∀ e ∈ s.pending.take k, s.keepsFrame e = true) →
    Host.Core.run Sys2Proof.core k s = .next t →
      t.activeIndex = s.activeIndex ∧ t.frontBase = s.frontBase ∧ t.wpl = s.wpl ∧ t.height = s.height ∧
        t.topLine = s.topLine ∧
        (∀ b, s.frontBase.toNat ≤ b → b < s.frontBase.toNat + s.planeBytes → t.mem.read b = s.mem.read b) ∧
        ∀ row x, row < s.height.toNat → x < s.wpl.toNat * 32 →
          packedPixel t.platform.bitOrder t.mem (t.sourceRow row) x =
            packedPixel s.platform.bitOrder s.mem (s.sourceRow row) x

/-! ### The back buffer (43_backbuffer.md) and the addressability query (44_addressability.md) -/

/-- GET_BACK_BUFFER: its one encoding, its effect in READY (the back plane's base, WIDTH, HEIGHT and WPL in the response,
nothing changed), its rejection in UNCONFIGURED, no response in HALTED, and every other command with its opcode illegal
(R140). -/
def Obligations.GetBackBufferDescribesTheBackPlane : Prop :=
  (∀ (w : PixelWidth) (c : Command), decode w c = .ok .getBackBuffer ↔ c = 0x30000000000000000000000000000000) ∧
    (∀ (w : PixelWidth) (c : Command), c.opc = 0x30 → c ≠ 0x30000000000000000000000000000000 → ∃ e, decode w c = .error e) ∧
    ∀ s : State,
      (s.mode = .ready → exec .getBackBuffer s = .next
        { s with
          response := some ⟨.ok, if s.activeIndex then s.planeBase0 else s.planeBase1, BitVec.ofNat 32 s.width.toNat,
            BitVec.ofNat 32 s.height.toNat, BitVec.ofNat 32 s.wpl.toNat⟩ }) ∧
      (s.mode = .unconfigured → exec .getBackBuffer s = .next { s with response := some ⟨.errState, 0, 0, 0, 0⟩ }) ∧
      (s.mode = .halted → exec .getBackBuffer s = .next { s with response := none })

/-- MAKE_BACK_GRAPHICS over a back plane whose base is in a window completes with the same descriptor and changes
nothing (R141). -/
def Obligations.MakeBackGraphicsGrantsAnAddressablePlane : Prop :=
  ∀ (s : State) (base : Addr), s.mode = .ready → base = (if s.activeIndex then s.planeBase0 else s.planeBase1) →
    (s.platform.lowWindow.lo ≤ base.toNat ∧ base.toNat < s.platform.lowWindow.hi ∨
      s.platform.highWindow.lo ≤ base.toNat ∧ base.toNat < s.platform.highWindow.hi) →
      exec .makeBackGraphics s = .next
        { s with
          response := some ⟨.ok, base, BitVec.ofNat 32 s.width.toNat, BitVec.ofNat 32 s.height.toNat,
            BitVec.ofNat 32 s.wpl.toNat⟩ }

/-- MAKE_BACK_GRAPHICS over a back plane whose base is outside both windows takes the fatal halt: MODE becomes HALTED,
FATAL is 1, no response is returned, every other variable keeps its value (R141; 60_exceptions.md R201, R202, R209). -/
def Obligations.AddressabilityViolationHalts : Prop :=
  ∀ (s : State) (base : Addr), s.mode = .ready → base = (if s.activeIndex then s.planeBase0 else s.planeBase1) →
    (base.toNat < s.platform.lowWindow.lo ∨ s.platform.lowWindow.hi ≤ base.toNat) →
    (base.toNat < s.platform.highWindow.lo ∨ s.platform.highWindow.hi ≤ base.toNat) →
      ∃ t, exec .makeBackGraphics s = .next t ∧ t = { s with mode := .halted, response := none } ∧ t.fatal = true

/-- No other step halts the block: a step that does is a MAKE_BACK_GRAPHICS in READY over a back plane outside both
windows, and it changes no other variable, nor memory (60_exceptions.md R201, R209). -/
def Obligations.OnlyAnAddressabilityViolationHalts : Prop :=
  ∀ s t : State, s.mode ≠ .halted → step s = .next t → t.mode = .halted →
    s.mode = .ready ∧ inWindow s.platform s.backBase.toNat = false ∧
      (∃ p cmd rest, s.pending = .command p cmd :: rest ∧ decode s.platform.pixelWidth cmd = .ok .makeBackGraphics ∧
        t.portStuck p = true) ∧
      { t with
        mode := s.mode, response := s.response, portT := s.portT, portD := s.portD, pending := s.pending } = s

/-- COPY_TO_BACK completes: every word of the back plane becomes the front plane's, the front plane and every other byte
of memory outside the back plane are unchanged, and so is everything else (R142; 47_external_units.md R180). -/
def Obligations.CopyToBackSeedsTheBackPlane : Prop :=
  ∀ (s : State) (front back : Nat), s.mode = .ready → s.PlanesAllowed →
    front = (if s.activeIndex then s.planeBase1 else s.planeBase0).toNat →
    back = (if s.activeIndex then s.planeBase0 else s.planeBase1).toNat →
      ∃ t, exec .copyToBack s = .next t ∧ t.response = some ⟨.ok, 0, 0, 0, 0⟩ ∧
        { t with mem := s.mem, response := s.response } = s ∧
        (∀ j, j < s.wpl.toNat * s.height.toNat →
          t.mem.readWord (back + j * 4) = s.mem.readWord (front + j * 4) ∧
            t.mem.readWord (front + j * 4) = s.mem.readWord (front + j * 4)) ∧
        ∀ b, (b < back ∨ back + s.wpl.toNat * s.height.toNat * 4 ≤ b) → t.mem.read b = s.mem.read b

/-- PLANE_IS_BIT_ADDRESSABLE completes with 1 if the base of the plane its selector names is in a window and 0 if not,
and changes nothing (R150, R151; 20_memory.md R60). -/
def Obligations.PlaneQueryTestsTheBaseAddress : Prop :=
  ∀ (s : State) (sel : Selector) (base : Addr), s.mode = .ready →
    base = (match sel with
      | .p0 => s.planeBase0
      | .p1 => s.planeBase1
      | .front => if s.activeIndex then s.planeBase1 else s.planeBase0
      | .back => if s.activeIndex then s.planeBase0 else s.planeBase1) →
      exec (.planeIsBitAddressable sel) s = .next
        { s with
          response := some ⟨.ok,
            if s.platform.lowWindow.lo ≤ base.toNat ∧ base.toNat < s.platform.lowWindow.hi ∨
              s.platform.highWindow.lo ≤ base.toNat ∧ base.toNat < s.platform.highWindow.hi then 1 else 0, 0, 0, 0⟩ }

/-- The query is idempotent: asked again after any command but DESTROY, while the block is READY, it gives the same
answer, for FRONT and BACK if that command did not flip (R152). -/
def Obligations.PlaneQueryIsIdempotent : Prop :=
  ∀ (s t : State) (i : Instr) (sel : Selector), s.mode = .ready → i ≠ .destroy → exec i s = .next t → t.mode = .ready →
    (sel = .front ∨ sel = .back → t.activeIndex = s.activeIndex) →
      ∃ u v, exec (.planeIsBitAddressable sel) s = .next u ∧ exec (.planeIsBitAddressable sel) t = .next v ∧
        v.response = u.response

/-! ### Palette, background and read-back (45_palette_background.md, 46_status.md) -/

/-- SET_FG_COLOR: its encodings, one for each PIXW-bit color, every other command with its opcode illegal; in READY it
completes, writes palette entry 1 and changes nothing else; ERR_STATE in UNCONFIGURED, no response in HALTED, and
ERR_ILLEGAL for a color of more than PIXW bits; the next RASTERIZE shows the color at every set bit of its row (R160). -/
def Obligations.SetFgColorWritesPaletteEntryOne : Prop :=
  (∀ (w : PixelWidth) (c : Command) (color : Pixel), decode w c = .ok (.setFgColor color) ↔
      c = (0x50000000 : BitVec 32) ++ color ++ (0 : BitVec 64) ∧ color.toNat < 2 ^ w.bits) ∧
    (∀ (w : PixelWidth) (c : Command), c.opc = 0x50 → (∀ color, decode w c ≠ .ok (.setFgColor color)) →
      ∃ e, decode w c = .error e) ∧
    ∀ (s : State) (color : Pixel),
      (s.mode = .ready → color.toNat < 2 ^ s.platform.pixelWidth.bits →
        exec (.setFgColor color) s = .next { s with palette1 := color, response := some ⟨.ok, 0, 0, 0, 0⟩ }) ∧
      (s.mode ≠ .halted → 2 ^ s.platform.pixelWidth.bits ≤ color.toNat →
        exec (.setFgColor color) s = .next { s with response := some ⟨.errIllegal, 0, 0, 0, 0⟩ }) ∧
      (s.mode = .unconfigured → color.toNat < 2 ^ s.platform.pixelWidth.bits →
        exec (.setFgColor color) s = .next { s with response := some ⟨.errState, 0, 0, 0, 0⟩ }) ∧
      (s.mode = .halted → exec (.setFgColor color) s = .next { s with response := none }) ∧
      ∀ (v t : State) (cpp : Cpp) (line : Dim) (dest : Addr) (row x : Nat), s.mode = .ready → s.PaletteFits →
        color.toNat < 2 ^ s.platform.pixelWidth.bits → exec (.setFgColor color) s = .next v →
        exec (.rasterize cpp line dest) v = .next t → line.toNat = s.topLine.toNat + row → row < s.height.toNat →
        x < s.wpl.toNat * 32 →
        packedPixel s.platform.bitOrder s.mem ((if row = 0 ∧ s.flipPending = true then s.backBase else s.frontBase).toNat +
          row * s.wpl.toNat * 4) x = true →
          t.mem.readPixel s.platform.pixelWidth (dest.toNat + x * s.pixBytes) = color

/-- SET_BG_COLOR: its encodings, one for each PIXW-bit color, every other command with its opcode illegal; in READY it
completes, writes palette entry 0 and changes nothing else; ERR_STATE in UNCONFIGURED, no response in HALTED, and
ERR_ILLEGAL for a color of more than PIXW bits; the next RASTERIZE without a background shows the color at every unset bit
of its row, and one with a background shows the image there, where OVERLAY_UNSET has its default (R161). -/
def Obligations.SetBgColorWritesPaletteEntryZero : Prop :=
  (∀ (w : PixelWidth) (c : Command) (color : Pixel), decode w c = .ok (.setBgColor color) ↔
      c = (0x51000000 : BitVec 32) ++ color ++ (0 : BitVec 64) ∧ color.toNat < 2 ^ w.bits) ∧
    (∀ (w : PixelWidth) (c : Command), c.opc = 0x51 → (∀ color, decode w c ≠ .ok (.setBgColor color)) →
      ∃ e, decode w c = .error e) ∧
    ∀ (s : State) (color : Pixel),
      (s.mode = .ready → color.toNat < 2 ^ s.platform.pixelWidth.bits →
        exec (.setBgColor color) s = .next { s with palette0 := color, response := some ⟨.ok, 0, 0, 0, 0⟩ }) ∧
      (s.mode ≠ .halted → 2 ^ s.platform.pixelWidth.bits ≤ color.toNat →
        exec (.setBgColor color) s = .next { s with response := some ⟨.errIllegal, 0, 0, 0, 0⟩ }) ∧
      (s.mode = .unconfigured → color.toNat < 2 ^ s.platform.pixelWidth.bits →
        exec (.setBgColor color) s = .next { s with response := some ⟨.errState, 0, 0, 0, 0⟩ }) ∧
      (s.mode = .halted → exec (.setBgColor color) s = .next { s with response := none }) ∧
      ∀ (v t : State) (cpp : Cpp) (line : Dim) (dest : Addr) (row x : Nat), s.mode = .ready → s.PaletteFits →
        color.toNat < 2 ^ s.platform.pixelWidth.bits → exec (.setBgColor color) s = .next v →
        exec (.rasterize cpp line dest) v = .next t → line.toNat = s.topLine.toNat + row → row < s.height.toNat →
        x < s.wpl.toNat * 32 →
        packedPixel s.platform.bitOrder s.mem ((if row = 0 ∧ s.flipPending = true then s.backBase else s.frontBase).toNat +
          row * s.wpl.toNat * 4) x = false →
          (s.bgPresent = false → t.mem.readPixel s.platform.pixelWidth (dest.toNat + x * s.pixBytes) = color) ∧
          (s.bgPresent = true → s.platform.blend = .background →
            t.mem.readPixel s.platform.pixelWidth (dest.toNat + x * s.pixBytes) =
              s.mem.readPixel s.platform.pixelWidth
                (s.bgBase.toNat + row * s.wpl.toNat * 32 * s.pixBytes + x * s.pixBytes))

/-- The pixel width is 8, 16 or 32 bits, PIX_BYTES bytes (00_scope.md R6, R7), and what a pixel access reads has PIXW bits
(00_scope.md R9). -/
def Obligations.PixelsHaveTheirWidth : Prop :=
  (∀ w : PixelWidth, w.bits = 8 * w.bytes ∧ (w.bits = 8 ∨ w.bits = 16 ∨ w.bits = 32)) ∧
    ∀ (m : Memory) (w : PixelWidth) (a : Nat),
      (m.readPixel w a).toNat = m.readNat a w.bytes ∧ m.readNat a w.bytes < 2 ^ w.bits

/-- SET_BACKGROUND and CLR_BACKGROUND complete, write the background reference and change nothing else (R162, R163). -/
def Obligations.BackgroundCommandsWriteTheReference : Prop :=
  ∀ (s : State) (addr : Addr), s.mode = .ready →
    exec (.setBackground addr) s = .next
        { s with bgPresent := true, bgBase := addr, response := some ⟨.ok, 0, 0, 0, 0⟩ } ∧
      exec .clrBackground s = .next { s with bgPresent := false, bgBase := 0, response := some ⟨.ok, 0, 0, 0, 0⟩ }

/-- Colors take effect from the next RASTERIZE, for its whole row, in every row it draws without a background: the row is a
pattern of bits that does not depend on the colors, shown in the colors set last (R164). -/
def Obligations.ColorChangeShowsFromTheNextRow : Prop :=
  ∀ (s : State) (cpp : Cpp) (line : Dim) (dest : Addr), s.mode = .ready → s.bgPresent = false →
    ∃ bits : Nat → Bool, ∀ (v t u : State) (fg bg : Pixel),
      fg.toNat < 2 ^ s.platform.pixelWidth.bits → bg.toNat < 2 ^ s.platform.pixelWidth.bits →
      exec (.setFgColor fg) s = .next v → exec (.setBgColor bg) v = .next t →
      exec (.rasterize cpp line dest) t = .next u →
      s.topLine.toNat ≤ line.toNat → line.toNat < s.topLine.toNat + s.height.toNat →
        ∀ x, x < s.wpl.toNat * 32 →
          u.mem.readPixel s.platform.pixelWidth (dest.toNat + x * s.pixBytes) = if bits x then fg else bg

/-- READ_REG completes with the register's value in every mode but HALTED and changes nothing (R170; 10_state.md R29,
R30); a reserved number is rejected with ERR_ILLEGAL. -/
def Obligations.ReadRegReturnsTheRegister : Prop :=
  ∀ s : State, s.mode ≠ .halted →
    (∀ (r : BitVec 8) (v : BitVec 32),
      (r = 0 ∧ v = BitVec.ofNat 32 ((if s.mode = .ready then 1 else 0) + (if s.activeIndex then 2 else 0) +
          (if s.flipPending then 4 else 0) + (if s.bgPresent then 8 else 0)) ∨
        r = 1 ∧ v = BitVec.ofNat 32 s.width.toNat ∨ r = 2 ∧ v = BitVec.ofNat 32 s.height.toNat ∨
        r = 3 ∧ v = BitVec.ofNat 32 s.wpl.toNat ∨ r = 4 ∧ v = BitVec.ofNat 32 s.topLine.toNat ∨
        r = 5 ∧ v = s.planeBase0 ∨ r = 6 ∧ v = s.planeBase1 ∨ r = 7 ∧ v = s.palette0 ∨ r = 8 ∧ v = s.palette1 ∨
        r = 9 ∧ v = s.bgBase) →
        exec (.readReg r) s = .next { s with response := some ⟨.ok, v, 0, 0, 0⟩ }) ∧
      ∀ r : BitVec 8, 9 < r.toNat → exec (.readReg r) s = .next { s with response := some ⟨.errIllegal, 0, 0, 0, 0⟩ }

/-- In UNCONFIGURED every register reads 0 (46_status.md R170, corner case 1). -/
def Obligations.UnconfiguredRegistersReadZero : Prop :=
  ∀ (s : State) (r : BitVec 8), s.Inv → s.mode = .unconfigured → r.toNat ≤ 9 →
    exec (.readReg r) s = .next { s with response := some ⟨.ok, 0, 0, 0, 0⟩ }

/-! ### Memory (20_memory.md) -/

/-- Byte order is little-endian: MemRead is the sum of the bytes by rising address, MemWrite stores byte `j` of the value
at `a + j` and leaves every other byte alone (R51). -/
def Obligations.MemoryIsLittleEndian : Prop :=
  ∀ (m : Memory) (a n v : Nat),
    m.readNat a n = ((List.range n).map fun j => (m.read (a + j)).toNat * 256 ^ j).sum ∧
      (∀ j, j < n → ((m.writeNat a n v).read (a + j)).toNat = v / 2 ^ (8 * j) % 256) ∧
      ∀ b, (b < a ∨ a + n ≤ b) → (m.writeNat a n v).read b = m.read b

/-- Only RASTERIZE and COPY_TO_BACK touch memory (R58): after any other command every byte reads as before. -/
def Obligations.OnlyTwoCommandsWriteMemory : Prop :=
  ∀ (i : Instr) (s t : State), (∀ cpp line dest, i ≠ .rasterize cpp line dest) → i ≠ .copyToBack →
    exec i s = .next t → ∀ b, t.mem.read b = s.mem.read b

/-! ### The whole machine -/

/-- Who writes which variable (10_state.md R22 to R27, R35 (2); 60_exceptions.md R202): the geometry and the plane bases
only INIT, INIT.BG and DESTROY; the palette and the background those and their own commands; ARENA_NEXT only INIT and
INIT.BG; MODE only those three and MAKE_BACK_GRAPHICS; the parameters and what lies outside the block no command. -/
def Obligations.EachVariableHasItsWriters : Prop :=
  ∀ (i : Instr) (s t : State), exec i s = .next t →
    (t.platform = s.platform ∧ t.portT = s.portT ∧ t.portD = s.portD ∧ t.resetAsserted = s.resetAsserted ∧
      t.lastRead = s.lastRead ∧ t.pending = s.pending) ∧
    ((∀ w h l, i ≠ .init w h l) → (∀ w h l a, i ≠ .initBg w h l a) →
      t.arenaNext = s.arenaNext ∧ t.allocatorStopped = s.allocatorStopped ∧
      (i ≠ .destroy →
        t.width = s.width ∧ t.height = s.height ∧ t.wpl = s.wpl ∧ t.topLine = s.topLine ∧
          t.planeBase0 = s.planeBase0 ∧ t.planeBase1 = s.planeBase1 ∧
          ((∀ c, i ≠ .setBgColor c) → t.palette0 = s.palette0) ∧
          ((∀ c, i ≠ .setFgColor c) → t.palette1 = s.palette1) ∧
          ((∀ a, i ≠ .setBackground a) → i ≠ .clrBackground → t.bgPresent = s.bgPresent ∧ t.bgBase = s.bgBase) ∧
          (i ≠ .makeBackGraphics → t.mode = s.mode)))

/-- A command that violates no precondition is answered safely in every state of the invariant: the step neither faults
nor is refused, and FATAL stays 0 (60_exceptions.md R217; that a returned rejection is safe is the model's choice, log
entry 25). -/
def Obligations.PermittedCommandsAreSafe : Prop :=
  ∀ (s : State) (p : Port) (cmd : Command) (rest : List Event), s.Inv → s.mode ≠ .halted →
    s.pending = .command p cmd :: rest → (∀ i, decode s.platform.pixelWidth cmd = .ok i → s.Permits i) →
      safeAnswer (step s) = true

/-- No step rewinds the allocator's arena pointer, whatever it is: not DESTROY, not a reset; and none changes the
parameters (10_state.md R35 (2), R37; 20_memory.md R60). -/
def Obligations.ArenaIsNeverRewound : Prop :=
  ∀ s t : State, step s = .next t → s.arenaNext ≤ t.arenaNext ∧ t.platform = s.platform

/-- The invariant holds right after reset, with any parameters that meet 00_scope.md R7, and with those of State.reset. -/
def Obligations.ResetStateMeetsTheInvariant : Prop :=
  (∀ p : Platform, p.Valid → (State.resetOn p).Inv) ∧ State.reset.Inv

/-- Every step keeps the invariant: memory stays in canonical form, the planes stay word aligned, inside the arena and
apart, WIDTH = WPL * BPW, the palette stays within PIXW bits, an unconfigured block reads 0, a requester is stuck only
where the spec says so (10_state.md R28, R36; 47_external_units.md R175). -/
def Obligations.EveryStepKeepsTheInvariant : Prop :=
  ∀ s t : State, s.Inv → step s = .next t → t.Inv
end

