-- ==== Sys2Proof/Laws/Encoding.lean ====
section
/-! SUPPORT. The fields of a packed command, and a command from its fields (30_encoding.md R81). -/

namespace Sys2Proof

/-- `Command.pack` with the appends at the type they have. -/
theorem pack_eq_append (o s : BitVec 8) (a b c : BitVec 32) :
    Command.pack o s a b c = (o ++ s ++ (0 : BitVec 16) ++ a ++ b ++ c : BitVec (8 + 8 + 16 + 32 + 32 + 32)) := rfl

@[simp] theorem opc_pack (o s : BitVec 8) (a b c : BitVec 32) : (Command.pack o s a b c).opc = o := by
  have h : BitVec.extractLsb' 120 8 (o ++ s ++ (0 : BitVec 16) ++ a ++ b ++ c) = o := by
    repeat rw [BitVec.extractLsb'_append_eq_of_le (by decide)]
    simp
  exact h

@[simp] theorem sub_pack (o s : BitVec 8) (a b c : BitVec 32) : (Command.pack o s a b c).sub = s := by
  have h : BitVec.extractLsb' 112 8 (o ++ s ++ (0 : BitVec 16) ++ a ++ b ++ c) = s := by
    repeat rw [BitVec.extractLsb'_append_eq_of_le (by decide)]
    rw [BitVec.extractLsb'_append_eq_of_add_le (by decide)]
    simp
  exact h

@[simp] theorem rsv0_pack (o s : BitVec 8) (a b c : BitVec 32) : (Command.pack o s a b c).rsv0 = 0 := by
  have h : BitVec.extractLsb' 96 16 (o ++ s ++ (0 : BitVec 16) ++ a ++ b ++ c) = 0 := by
    repeat rw [BitVec.extractLsb'_append_eq_of_le (by decide)]
    rw [BitVec.extractLsb'_append_eq_of_add_le (by decide)]
    simp
  exact h

@[simp] theorem w1_pack (o s : BitVec 8) (a b c : BitVec 32) : (Command.pack o s a b c).w1 = a := by
  have h : BitVec.extractLsb' 64 32 (o ++ s ++ (0 : BitVec 16) ++ a ++ b ++ c) = a := by
    repeat rw [BitVec.extractLsb'_append_eq_of_le (by decide)]
    rw [BitVec.extractLsb'_append_eq_of_add_le (by decide)]
    simp
  exact h

@[simp] theorem w2_pack (o s : BitVec 8) (a b c : BitVec 32) : (Command.pack o s a b c).w2 = b := by
  have h : BitVec.extractLsb' 32 32 (o ++ s ++ (0 : BitVec 16) ++ a ++ b ++ c) = b := by
    rw [BitVec.extractLsb'_append_eq_of_le (by decide), BitVec.extractLsb'_append_eq_of_add_le (by decide)]
    simp
  exact h

@[simp] theorem w3_pack (o s : BitVec 8) (a b c : BitVec 32) : (Command.pack o s a b c).w3 = c := by
  have h : BitVec.extractLsb' 0 32 (o ++ s ++ (0 : BitVec 16) ++ a ++ b ++ c) = c := by
    rw [BitVec.extractLsb'_append_eq_of_add_le (by decide)]
    simp
  exact h

@[simp] theorem lowHalf_lowWord (v : BitVec 16) : lowHalf (lowWord v) = v := by
  have h : BitVec.extractLsb' 0 16 ((0 : BitVec 16) ++ v) = v := by
    rw [BitVec.extractLsb'_append_eq_of_add_le (by decide)]
    simp
  exact h

@[simp] theorem highHalf_lowWord (v : BitVec 16) : highHalf (lowWord v) = 0 := by
  have h : BitVec.extractLsb' 16 16 ((0 : BitVec 16) ++ v) = 0 := by
    rw [BitVec.extractLsb'_append_eq_of_le (by decide)]
    simp
  exact h

@[simp] theorem lowHalf_append (h l : BitVec 16) : lowHalf (h ++ l) = l := by
  have e : BitVec.extractLsb' 0 16 (h ++ l) = l := by
    rw [BitVec.extractLsb'_append_eq_of_add_le (by decide)]
    simp
  exact e

@[simp] theorem highHalf_append (h l : BitVec 16) : highHalf (h ++ l) = h := by
  have e : BitVec.extractLsb' 16 16 (h ++ l) = h := by
    rw [BitVec.extractLsb'_append_eq_of_le (by decide)]
    simp
  exact e

/-- A word is its two halves. -/
theorem append_halves (v : BitVec 32) : (highHalf v ++ lowHalf v : BitVec 32) = v := by
  apply BitVec.eq_of_getLsbD_eq
  intro i hi
  have e : (highHalf v ++ lowHalf v : BitVec (16 + 16)).getLsbD i = v.getLsbD i := by
    rw [BitVec.getLsbD_append]
    simp only [highHalf, lowHalf, BitVec.getLsbD_extractLsb']
    split
    · simp [*]
    · rw [show 16 + (i - 16) = i by omega]
      simp only [Bool.and_eq_right_iff_imp, decide_eq_true_eq]
      omega
  exact e

/-- A word whose upper half is zero is its lower half. -/
theorem lowWord_lowHalf {v : BitVec 32} (h : highHalf v = 0) : lowWord (lowHalf v) = v := by
  rw [lowWord, ← h]
  exact append_halves v

/-- A command whose `RSV0` is zero is packed from its fields. -/
theorem pack_fields {c : Command} (h : c.rsv0 = 0) : Command.pack c.opc c.sub c.w1 c.w2 c.w3 = c := by
  apply BitVec.eq_of_getLsbD_eq
  intro i hi
  have e : (c.opc ++ c.sub ++ c.rsv0 ++ c.w1 ++ c.w2 ++ c.w3 : BitVec (8 + 8 + 16 + 32 + 32 + 32)).getLsbD i =
      c.getLsbD i := by
    simp only [BitVec.getLsbD_append, Command.opc, Command.sub, Command.rsv0, Command.w1, Command.w2, Command.w3,
      BitVec.getLsbD_extractLsb']
    by_cases h0 : i < 32
    · simp [h0]
    by_cases h1 : i - 32 < 32
    · rw [if_neg h0, if_pos h1, decide_eq_true h1, Bool.true_and, show 32 + (i - 32) = i by omega]
    by_cases h2 : i - 32 - 32 < 32
    · rw [if_neg h0, if_neg h1, if_pos h2, decide_eq_true h2, Bool.true_and, show 64 + (i - 32 - 32) = i by omega]
    by_cases h3 : i - 32 - 32 - 32 < 16
    · rw [if_neg h0, if_neg h1, if_neg h2, if_pos h3, decide_eq_true h3, Bool.true_and,
        show 96 + (i - 32 - 32 - 32) = i by omega]
    by_cases h4 : i - 32 - 32 - 32 - 16 < 8
    · rw [if_neg h0, if_neg h1, if_neg h2, if_neg h3, if_pos h4, decide_eq_true h4, Bool.true_and,
        show 112 + (i - 32 - 32 - 32 - 16) = i by omega]
    · rw [if_neg h0, if_neg h1, if_neg h2, if_neg h3, if_neg h4,
        decide_eq_true (show i - 32 - 32 - 32 - 16 - 8 < 8 by omega), Bool.true_and,
        show 120 + (i - 32 - 32 - 32 - 16 - 8) = i by omega]
  rw [h] at e
  exact e

/-- Two commands are equal when their fields are. -/
theorem pack_inj {o s o' s' : BitVec 8} {a b c a' b' c' : BitVec 32}
    (h : Command.pack o s a b c = Command.pack o' s' a' b' c') : o = o' ∧ s = s' ∧ a = a' ∧ b = b' ∧ c = c' := by
  refine ⟨?_, ?_, ?_, ?_, ?_⟩
  · simpa using congrArg Command.opc h
  · simpa using congrArg Command.sub h
  · simpa using congrArg Command.w1 h
  · simpa using congrArg Command.w2 h
  · simpa using congrArg Command.w3 h

/-- A packed command under a mask given field by field. -/
theorem pack_and (o s o' s' : BitVec 8) (r : BitVec 16) (a b c a' b' c' : BitVec 32) {m : Command}
    (hm : m = (o' ++ s' ++ r ++ a' ++ b' ++ c' : BitVec (8 + 8 + 16 + 32 + 32 + 32))) :
    Command.pack o s a b c &&& m = Command.pack (o &&& o') (s &&& s') (a &&& a') (b &&& b') (c &&& c') := by
  have h : (o ++ s ++ (0 : BitVec 16) ++ a ++ b ++ c) &&& (o' ++ s' ++ r ++ a' ++ b' ++ c') =
      (o &&& o') ++ (s &&& s') ++ (0 : BitVec 16) ++ (a &&& a') ++ (b &&& b') ++ (c &&& c') := by
    simp only [BitVec.and_append]
    rw [show (0 : BitVec 16) &&& r = 0 from BitVec.zero_and]
  rw [hm]
  exact h

/-- A field under a zero mask, in the spelling of the encoder's zeros. -/
theorem and_zero_lit {w : Nat} (v : BitVec w) : v &&& (0 : BitVec w) = 0 := BitVec.and_zero

/-- A half word in the low half has no bit under the high half's mask. -/
@[simp] theorem lowWord_and_high (v : BitVec 16) : lowWord v &&& 0xFFFF0000 = 0 := by
  have h : ((0 : BitVec 16) ++ v) &&& ((0xFFFF : BitVec 16) ++ (0 : BitVec 16)) = (0 : BitVec 16) ++ (0 : BitVec 16) := by
    simp only [BitVec.and_append]
    rw [show v &&& (0 : BitVec 16) = 0 from BitVec.and_zero]
    rfl
  exact h

/-! ### What each part of the decoder accepts -/

/-- A command packed from the fields a command has is that command. -/
theorem pack_of_fields {c : Command} {o s : BitVec 8} {a b d : BitVec 32} (h0 : c.rsv0 = 0) (h1 : c.opc = o)
    (h2 : c.sub = s) (h3 : c.w1 = a) (h4 : c.w2 = b) (h5 : c.w3 = d) : Command.pack o s a b d = c := by
  subst h1 h2 h3 h4 h5
  exact pack_fields h0

theorem acceptIf_ok {b : Bool} {i j : Instr} (h : acceptIf b i = .ok j) : b = true ∧ j = i := by
  unfold acceptIf at h
  split at h
  · cases h
    exact ⟨‹_›, rfl⟩
  · cases h

theorem decodeN_ok {c : Command} {i j : Instr} (h : decodeN c i = .ok j) :
    j = i ∧ c.sub = 0 ∧ c.w1 = 0 ∧ c.w2 = 0 ∧ c.w3 = 0 := by
  unfold decodeN at h
  split at h
  · cases h
  · rename_i hs
    obtain ⟨h1, h2⟩ := acceptIf_ok h
    simp only [Bool.and_eq_true, beq_iff_eq] at h1
    exact ⟨h2, not_not.mp hs, h1.1.1, h1.1.2, h1.2⟩

theorem decodeI_ok {c : Command} {j : Instr} (h : decodeI c = .ok j) : highHalf c.w2 = 0 ∧
    (c.sub = 0 ∧ c.w3 = 0 ∧ j = .init (lowHalf c.w1) (highHalf c.w1) (lowHalf c.w2) ∨
      c.sub = 1 ∧ j = .initBg (lowHalf c.w1) (highHalf c.w1) (lowHalf c.w2) c.w3) := by
  unfold decodeI at h
  split at h
  · obtain ⟨h1, h2⟩ := acceptIf_ok h
    simp only [Bool.and_eq_true, beq_iff_eq] at h1
    exact ⟨h1.1, Or.inl ⟨‹_›, h1.2, h2⟩⟩
  · split at h
    · obtain ⟨h1, h2⟩ := acceptIf_ok h
      exact ⟨by simpa using h1, Or.inr ⟨‹_›, h2⟩⟩
    · cases h

theorem decodeR_ok {c : Command} {j : Instr} (h : decodeR c = .ok j) :
    c.sub = 0 ∧ highHalf c.w2 = 0 ∧ j = .rasterize c.w1 (lowHalf c.w2) c.w3 := by
  unfold decodeR at h
  split at h
  · cases h
  · rename_i hs
    obtain ⟨h1, h2⟩ := acceptIf_ok h
    exact ⟨not_not.mp hs, by simpa using h1, h2⟩

theorem Selector.ofSub_eq_some {sub : BitVec 8} {sel : Selector} (h : Selector.ofSub sub = some sel) :
    sub = sel.toSub := by
  unfold Selector.ofSub at h
  split at h
  · cases h; assumption
  split at h
  · cases h; assumption
  split at h
  · cases h; assumption
  split at h
  · cases h; assumption
  · cases h

@[simp] theorem Selector.ofSub_toSub (sel : Selector) : Selector.ofSub sel.toSub = some sel := by
  cases sel <;> rfl

theorem decodeSelector_ok {c : Command} {j : Instr} (h : decodeSelector c = .ok j) :
    c.w1 = 0 ∧ c.w2 = 0 ∧ c.w3 = 0 ∧ ∃ sel : Selector, c.sub = sel.toSub ∧ j = .planeIsBitAddressable sel := by
  unfold decodeSelector at h
  split at h
  · obtain ⟨h1, h2⟩ := acceptIf_ok h
    simp only [Bool.and_eq_true, beq_iff_eq] at h1
    exact ⟨h1.1.1, h1.1.2, h1.2, _, Selector.ofSub_eq_some ‹_›, h2⟩
  · cases h

theorem decodeReadReg_ok {c : Command} {j : Instr} (h : decodeReadReg c = .ok j) :
    c.sub ≤ lastReg ∧ c.w1 = 0 ∧ c.w2 = 0 ∧ c.w3 = 0 ∧ j = .readReg c.sub := by
  unfold decodeReadReg at h
  split at h
  · obtain ⟨h1, h2⟩ := acceptIf_ok h
    simp only [Bool.and_eq_true, beq_iff_eq] at h1
    exact ⟨‹_›, h1.1.1, h1.1.2, h1.2, h2⟩
  · cases h

theorem decodeC_ok {w : PixelWidth} {c : Command} {f : Pixel → Instr} {j : Instr} (h : decodeC w c f = .ok j) :
    w.fits c.w1 = true ∧ c.sub = 0 ∧ c.w2 = 0 ∧ c.w3 = 0 ∧ j = f c.w1 := by
  unfold decodeC at h
  split at h
  · cases h
  · rename_i hs
    obtain ⟨h1, h2⟩ := acceptIf_ok h
    simp only [Bool.and_eq_true, beq_iff_eq] at h1
    exact ⟨h1.1.1, not_not.mp hs, h1.1.2, h1.2, h2⟩

theorem decodeBackground_ok {c : Command} {j : Instr} (h : decodeBackground c = .ok j) :
    c.w1 = 0 ∧ c.w2 = 0 ∧ (c.sub = 1 ∧ j = .setBackground c.w3 ∨ c.sub = 0 ∧ c.w3 = 0 ∧ j = .clrBackground) := by
  unfold decodeBackground at h
  split at h
  · obtain ⟨h1, h2⟩ := acceptIf_ok h
    simp only [Bool.and_eq_true, beq_iff_eq] at h1
    exact ⟨h1.1, h1.2, Or.inl ⟨‹_›, h2⟩⟩
  · obtain ⟨h1, h2, h3, h4, h5⟩ := decodeN_ok h
    exact ⟨h3, h4, Or.inr ⟨h2, h5, h1⟩⟩

/-- Which part of the decoder accepted a legal command. -/
theorem decode_ok {w : PixelWidth} {c : Command} {j : Instr} (h : decode w c = .ok j) : c.rsv0 = 0 ∧
    (c.opc = 0x01 ∧ decodeI c = .ok j ∨ c.opc = 0x02 ∧ decodeN c .destroy = .ok j ∨ c.opc = 0x10 ∧ decodeR c = .ok j ∨
      c.opc = 0x20 ∧ decodeN c .pendFlip = .ok j ∨ c.opc = 0x21 ∧ decodeN c .flipNow = .ok j ∨
      c.opc = 0x30 ∧ decodeN c .getBackBuffer = .ok j ∨ c.opc = 0x31 ∧ decodeN c .makeBackGraphics = .ok j ∨
      c.opc = 0x32 ∧ decodeN c .copyToBack = .ok j ∨ c.opc = 0x40 ∧ decodeSelector c = .ok j ∨
      c.opc = 0x50 ∧ decodeC w c .setFgColor = .ok j ∨ c.opc = 0x51 ∧ decodeC w c .setBgColor = .ok j ∨
      c.opc = 0x52 ∧ decodeBackground c = .ok j ∨ c.opc = 0x60 ∧ decodeReadReg c = .ok j) := by
  unfold decode at h
  split at h
  · cases h
  rename_i h0
  refine ⟨not_not.mp h0, ?_⟩
  unfold decodeFields at h
  by_cases e : c.opc = 0x01
  · rw [if_pos e] at h; exact .inl ⟨e, h⟩
  rw [if_neg e] at h; right; clear e
  by_cases e : c.opc = 0x02
  · rw [if_pos e] at h; exact .inl ⟨e, h⟩
  rw [if_neg e] at h; right; clear e
  by_cases e : c.opc = 0x10
  · rw [if_pos e] at h; exact .inl ⟨e, h⟩
  rw [if_neg e] at h; right; clear e
  by_cases e : c.opc = 0x20
  · rw [if_pos e] at h; exact .inl ⟨e, h⟩
  rw [if_neg e] at h; right; clear e
  by_cases e : c.opc = 0x21
  · rw [if_pos e] at h; exact .inl ⟨e, h⟩
  rw [if_neg e] at h; right; clear e
  by_cases e : c.opc = 0x30
  · rw [if_pos e] at h; exact .inl ⟨e, h⟩
  rw [if_neg e] at h; right; clear e
  by_cases e : c.opc = 0x31
  · rw [if_pos e] at h; exact .inl ⟨e, h⟩
  rw [if_neg e] at h; right; clear e
  by_cases e : c.opc = 0x32
  · rw [if_pos e] at h; exact .inl ⟨e, h⟩
  rw [if_neg e] at h; right; clear e
  by_cases e : c.opc = 0x40
  · rw [if_pos e] at h; exact .inl ⟨e, h⟩
  rw [if_neg e] at h; right; clear e
  by_cases e : c.opc = 0x50
  · rw [if_pos e] at h; exact .inl ⟨e, h⟩
  rw [if_neg e] at h; right; clear e
  by_cases e : c.opc = 0x51
  · rw [if_pos e] at h; exact .inl ⟨e, h⟩
  rw [if_neg e] at h; right; clear e
  by_cases e : c.opc = 0x52
  · rw [if_pos e] at h; exact .inl ⟨e, h⟩
  rw [if_neg e] at h; right; clear e
  by_cases e : c.opc = 0x60
  · rw [if_pos e] at h; exact ⟨e, h⟩
  rw [if_neg e] at h
  cases h

end Sys2Proof
end

