-- ==== Sys2Proof/Laws/Pixel.lean ====
section
/-! SUPPORT. The three pixel widths of 00_scope.md R7, and which values fit them. -/

namespace Sys2Proof

theorem PixelWidth.two_pow_bits (w : PixelWidth) : 2 ^ w.bits = 256 ^ w.bytes := by cases w <;> rfl

theorem PixelWidth.two_pow_bits_le (w : PixelWidth) : 2 ^ w.bits ≤ 2 ^ 32 := by cases w <;> decide

theorem PixelWidth.fits_iff {w : PixelWidth} {p : Pixel} : w.fits p = true ↔ p.toNat < 2 ^ w.bits := by
  simp [PixelWidth.fits]

/-- Every 32-bit value is a pixel value of 32 bits. -/
@[simp] theorem PixelWidth.fits_w32 (p : Pixel) : PixelWidth.w32.fits p = true := PixelWidth.fits_iff.mpr p.isLt

/-- Zero is a pixel value of every width. -/
@[simp] theorem PixelWidth.fits_zero (w : PixelWidth) : w.fits 0 = true := by cases w <;> rfl

end Sys2Proof
end

