-- ==== Sys2Proof/Laws/Memory.lean ====
section
/-! SUPPORT. Memory: a byte read after a write, multi-byte accesses in the little-endian order of 20_memory.md R51, runs
of words and pixels, and the canonical form that every write keeps. -/

namespace Sys2Proof.Machine

@[simp] theorem Memory.write_fill (m : Memory) (a : Nat) (v : Byte) : (m.write a v).fill = m.fill := rfl

@[simp] theorem Memory.unlisted_write (m : Memory) (a b : Nat) (v : Byte) :
    (m.write a v).unlisted b = m.unlisted b := rfl

theorem lookup_erase_same (cs : List Host.Cell) (a : Nat) : lookupCell (eraseCell cs a) a = none := by
  induction cs with
  | nil => rfl
  | cons c cs ih => by_cases h : c.1 = a <;> simp [eraseCell, lookupCell, h, ih]

theorem lookup_erase_other (cs : List Host.Cell) {a b : Nat} (hb : b ≠ a) :
    lookupCell (eraseCell cs a) b = lookupCell cs b := by
  induction cs with
  | nil => rfl
  | cons c cs ih =>
    by_cases h : c.1 = a
    · have : c.1 ≠ b := fun e => hb (e ▸ h)
      simp [eraseCell, lookupCell, h, ih, show a ≠ b from fun e => hb e.symm]
    · simp [eraseCell, lookupCell, h, ih]

theorem lookup_insert_same (cs : List Host.Cell) (a : Nat) (v : Byte) (h : lookupCell cs a = none) :
    lookupCell (insertCell cs a v) a = some v := by
  induction cs with
  | nil => simp [insertCell, lookupCell]
  | cons c cs ih =>
    simp only [lookupCell] at h
    by_cases hc : c.1 = a
    · simp [hc] at h
    · simp only [hc, if_false] at h
      by_cases hl : a < c.1 <;> simp [insertCell, lookupCell, hl, hc, ih h]

theorem lookup_insert_other (cs : List Host.Cell) {a b : Nat} (v : Byte) (hb : b ≠ a) :
    lookupCell (insertCell cs a v) b = lookupCell cs b := by
  induction cs with
  | nil => simp [insertCell, lookupCell, Ne.symm hb]
  | cons c cs ih =>
    by_cases hl : a < c.1
    · simp [insertCell, lookupCell, hl, Ne.symm hb]
    · simp [insertCell, lookupCell, hl, ih]

/-- A byte read at the address just written is the byte written. -/
@[simp] theorem Memory.read_write_same (m : Memory) (a : Nat) (v : Byte) : (m.write a v).read a = v := by
  unfold Memory.read
  rw [Memory.unlisted_write]
  by_cases h : v = m.unlisted a
  · simp [Memory.write, ← h, lookup_erase_same]
  · simp [Memory.write, h, lookup_insert_same _ _ _ (lookup_erase_same m.cells a)]

/-- A write leaves every other byte alone. -/
theorem Memory.read_write_other (m : Memory) {a b : Nat} (v : Byte) (h : b ≠ a) : (m.write a v).read b = m.read b := by
  unfold Memory.read
  rw [Memory.unlisted_write]
  by_cases hv : v = m.unlisted a
  · simp [Memory.write, ← hv, lookup_erase_other _ h]
  · simp [Memory.write, hv, lookup_insert_other _ _ h, lookup_erase_other _ h]

/-- `MemWrite` of `n + 1` bytes: the upper ones, then the lowest. -/
theorem Memory.writeNat_succ (m : Memory) (a n v : Nat) :
    m.writeNat a (n + 1) v = (m.writeNat (a + 1) n (v / 256)).write a (BitVec.ofNat 8 v) := rfl

/-- The byte at `b` after `MemWrite(a, n, v)`. -/
theorem Memory.read_writeNat (m : Memory) (a n v b : Nat) :
    (m.writeNat a n v).read b =
      if a ≤ b ∧ b < a + n then BitVec.ofNat 8 (v / 256 ^ (b - a)) else m.read b := by
  induction n generalizing a v with
  | zero => rw [if_neg (by omega)]; rfl
  | succ n ih =>
    unfold Memory.writeNat
    by_cases h : b = a
    · subst h
      simp
    · rw [Memory.read_write_other _ _ h, ih]
      by_cases hb : a ≤ b ∧ b < a + (n + 1)
      · rw [if_pos hb, if_pos (by omega), Nat.div_div_eq_div_mul, ← Nat.pow_succ',
          show (b - (a + 1)).succ = b - a by omega]
      · rw [if_neg hb, if_neg (by omega)]

/-- `MemWrite` leaves every byte outside its range alone. -/
theorem Memory.read_writeNat_outside (m : Memory) {a n v b : Nat} (h : b < a ∨ a + n ≤ b) :
    (m.writeNat a n v).read b = m.read b := by
  rw [Memory.read_writeNat, if_neg (by omega)]

/-- `MemRead` depends on the bytes of its range alone. -/
theorem Memory.readNat_congr {m m' : Memory} {a n : Nat} (h : ∀ b, a ≤ b → b < a + n → m'.read b = m.read b) :
    m'.readNat a n = m.readNat a n := by
  induction n generalizing a with
  | zero => rfl
  | succ n ih =>
    unfold Memory.readNat
    rw [h a (le_refl a) (by omega), ih fun b h1 h2 => h b (by omega) (by omega)]

/-- `MemRead` of the range just written gives the low `8n` bits of the value. -/
theorem Memory.readNat_writeNat_same (m : Memory) (a n v : Nat) : (m.writeNat a n v).readNat a n = v % 256 ^ n := by
  induction n generalizing a v with
  | zero => simp [Memory.readNat, Nat.mod_one]
  | succ n ih =>
    have htail : (m.writeNat a (n + 1) v).readNat (a + 1) n = (m.writeNat (a + 1) n (v / 256)).readNat (a + 1) n :=
      Memory.readNat_congr fun b h1 _ => by
        rw [Memory.writeNat_succ]
        exact Memory.read_write_other _ _ (show b ≠ a by omega)
    have hhead : ((m.writeNat a (n + 1) v).read a).toNat = v % 256 := by
      simp [Memory.writeNat]
    unfold Memory.readNat
    rw [htail, ih, hhead, Nat.pow_succ', Nat.mod_mul]

/-- `MemRead` of a range a `MemWrite` does not touch. -/
theorem Memory.readNat_writeNat_apart (m : Memory) {a n v b k : Nat} (h : b + k ≤ a ∨ a + n ≤ b) :
    (m.writeNat a n v).readNat b k = m.readNat b k :=
  Memory.readNat_congr fun c h1 h2 => Memory.read_writeNat_outside (a := a) (n := n) (v := v) m (by omega)

/-- `MemRead` of `n` bytes is below `256 ^ n`. -/
theorem Memory.readNat_lt (m : Memory) (a n : Nat) : m.readNat a n < 256 ^ n := by
  induction n generalizing a with
  | zero => simp [Memory.readNat]
  | succ n ih =>
    have h1 := (m.read a).isLt
    have h2 := ih (a + 1)
    unfold Memory.readNat
    rw [Nat.pow_succ']
    omega

/-- A run of values leaves every byte outside its range alone. -/
theorem Memory.read_writeRun_outside (m : Memory) {n a b : Nat} {vs : List (BitVec 32)}
    (h : b < a ∨ a + vs.length * n ≤ b) : (m.writeRun n a vs).read b = m.read b := by
  induction vs generalizing a with
  | nil => rfl
  | cons v vs ih =>
    rw [List.length_cons, Nat.succ_mul] at h
    unfold Memory.writeRun
    rw [Memory.read_writeNat_outside _ (by omega)]
    exact ih (by omega)

/-- The values of a run are read back one by one, cut to their `n` bytes. -/
theorem Memory.readNat_writeRun (m : Memory) {n a i : Nat} {vs : List (BitVec 32)} (h : i < vs.length) :
    (m.writeRun n a vs).readNat (a + i * n) n = vs[i].toNat % 256 ^ n := by
  induction vs generalizing a i with
  | nil => simp at h
  | cons v vs ih =>
    unfold Memory.writeRun
    cases i with
    | zero => simp [Memory.readNat_writeNat_same]
    | succ i =>
      have e : a + (i + 1) * n = a + n + i * n := by rw [Nat.succ_mul]; omega
      rw [e, Memory.readNat_writeNat_apart _ (Or.inr (by omega)), ih (by simpa using h)]
      simp

/-- Words of a run are read back one by one. -/
theorem Memory.readWord_writeRun (m : Memory) {a i : Nat} {vs : List Word} (h : i < vs.length) :
    (m.writeRun Config.wordBytes a vs).readWord (a + i * Config.wordBytes) = vs[i] := by
  unfold Memory.readWord
  rw [Memory.readNat_writeRun m h]
  have := vs[i].isLt
  have e : 256 ^ Config.wordBytes = 4294967296 := rfl
  rw [e, Nat.mod_eq_of_lt (by omega), BitVec.ofNat_toNat, BitVec.setWidth_eq]

/-- Pixels of a run are read back one by one. -/
theorem Memory.readPixel_writeRun (m : Memory) {w : PixelWidth} {a i : Nat} {vs : List Pixel} (h : i < vs.length)
    (hf : w.fits vs[i] = true) : (m.writeRun w.bytes a vs).readPixel w (a + i * w.bytes) = vs[i] := by
  unfold Memory.readPixel
  rw [Memory.readNat_writeRun m h, ← w.two_pow_bits, Nat.mod_eq_of_lt (PixelWidth.fits_iff.mp hf), BitVec.ofNat_toNat,
    BitVec.setWidth_eq]

/-- What is read as a pixel is a PIXW-bit value. -/
theorem Memory.fits_readPixel (m : Memory) (w : PixelWidth) (a : Nat) : w.fits (m.readPixel w a) = true := by
  have h := m.readNat_lt a w.bytes
  have h32 := w.two_pow_bits_le
  rw [PixelWidth.fits_iff, Memory.readPixel, BitVec.toNat_ofNat]
  rw [← w.two_pow_bits] at h
  rwa [Nat.mod_eq_of_lt (by omega)]

theorem risingFrom_weaken {cs : List Host.Cell} {l l' : Nat} (h : risingFrom (some l) cs = true) (hl : l' ≤ l) :
    risingFrom (some l') cs = true := by
  cases cs with
  | nil => rfl
  | cons c cs =>
    simp only [risingFrom, Bool.and_eq_true, decide_eq_true_eq] at h ⊢
    exact ⟨by omega, h.2⟩

theorem risingFrom_erase {cs : List Host.Cell} {l a : Nat} (h : risingFrom (some l) cs = true) :
    risingFrom (some l) (eraseCell cs a) = true := by
  induction cs generalizing l with
  | nil => rfl
  | cons c cs ih =>
    simp only [risingFrom, Bool.and_eq_true, decide_eq_true_eq] at h
    by_cases hc : c.1 = a
    · simp only [eraseCell, hc, if_true]
      exact ih (risingFrom_weaken h.2 (by omega))
    · simp only [eraseCell, hc, if_false, risingFrom, Bool.and_eq_true, decide_eq_true_eq]
      exact ⟨h.1, ih h.2⟩

theorem risingFrom_insert {cs : List Host.Cell} {l a : Nat} {v : Byte} (h : risingFrom (some l) cs = true)
    (hl : l < a) (hn : lookupCell cs a = none) : risingFrom (some l) (insertCell cs a v) = true := by
  induction cs generalizing l with
  | nil => simpa [insertCell, risingFrom] using hl
  | cons c cs ih =>
    simp only [risingFrom, Bool.and_eq_true, decide_eq_true_eq] at h
    by_cases hc : c.1 = a
    · simp [lookupCell, hc] at hn
    · simp only [lookupCell, hc, if_false] at hn
      by_cases hac : a < c.1
      · simp [insertCell, risingFrom, hac, hl, h.2]
      · simp only [insertCell, hac, if_false, risingFrom, Bool.and_eq_true, decide_eq_true_eq]
        exact ⟨h.1, ih h.2 (by omega) hn⟩

theorem risingFrom_none_iff (cs : List Host.Cell) :
    risingFrom none cs = true ↔ ∀ c, cs.head? = some c → risingFrom (some c.1) cs.tail = true := by
  cases cs <;> simp [risingFrom]

theorem rising_erase {cs : List Host.Cell} {a : Nat} (h : risingFrom none cs = true) :
    risingFrom none (eraseCell cs a) = true := by
  induction cs with
  | nil => rfl
  | cons c cs ih =>
    simp only [risingFrom] at h
    by_cases hc : c.1 = a
    · simp only [eraseCell, hc, if_true]
      refine ih ?_
      cases cs with
      | nil => rfl
      | cons d ds =>
        simp only [risingFrom, Bool.and_eq_true] at h ⊢
        exact h.2
    · simp only [eraseCell, hc, if_false, risingFrom]
      exact risingFrom_erase h

theorem rising_insert {cs : List Host.Cell} {a : Nat} {v : Byte} (h : risingFrom none cs = true)
    (hn : lookupCell cs a = none) : risingFrom none (insertCell cs a v) = true := by
  cases cs with
  | nil => rfl
  | cons c cs =>
    simp only [risingFrom] at h
    by_cases hc : c.1 = a
    · simp [lookupCell, hc] at hn
    · simp only [lookupCell, hc, if_false] at hn
      by_cases hac : a < c.1
      · simp [insertCell, risingFrom, hac, h]
      · simp only [insertCell, hac, if_false, risingFrom]
        exact risingFrom_insert h (by omega) hn

theorem mem_erase {cs : List Host.Cell} {a : Nat} {c : Host.Cell} (h : c ∈ eraseCell cs a) : c ∈ cs := by
  induction cs with
  | nil => exact h
  | cons d ds ih =>
    by_cases hd : d.1 = a
    · simp only [eraseCell, hd, if_true] at h
      exact List.mem_cons_of_mem _ (ih h)
    · simp only [eraseCell, hd, if_false, List.mem_cons] at h
      rcases h with h | h
      · simp [h]
      · exact List.mem_cons_of_mem _ (ih h)

theorem mem_insert {cs : List Host.Cell} {a : Nat} {v : Byte} {c : Host.Cell} (h : c ∈ insertCell cs a v) :
    c = (a, v) ∨ c ∈ cs := by
  induction cs with
  | nil => simpa [insertCell] using h
  | cons d ds ih =>
    by_cases hd : a < d.1
    · simpa [insertCell, hd] using h
    · simp only [insertCell, hd, if_false, List.mem_cons] at h
      rcases h with h | h
      · exact Or.inr (by simp [h])
      · rcases ih h with h | h
        · exact Or.inl h
        · exact Or.inr (List.mem_cons_of_mem _ h)

/-- A one-byte write inside the address space keeps the canonical form. -/
theorem Memory.wf_write {m : Memory} {a : Nat} (v : Byte) (h : m.wf = true) (ha : a < Config.addressSpace) :
    (m.write a v).wf = true := by
  simp only [Memory.wf, Bool.and_eq_true, List.all_eq_true, decide_eq_true_eq, bne_iff_ne] at h ⊢
  obtain ⟨hr, hall⟩ := h
  by_cases hv : v = m.unlisted a
  · simp only [Memory.write, hv, if_true]
    exact ⟨rising_erase hr, fun c hc => hall c (mem_erase hc)⟩
  · simp only [Memory.write, hv, if_false]
    refine ⟨rising_insert (rising_erase hr) (lookup_erase_same _ _), fun c hc => ?_⟩
    rcases mem_insert hc with rfl | hc
    · exact ⟨ha, hv⟩
    · exact hall c (mem_erase hc)

/-- `MemWrite` inside the address space keeps the canonical form. -/
theorem Memory.wf_writeNat {m : Memory} {a n : Nat} (v : Nat) (h : m.wf = true) (ha : a + n ≤ Config.addressSpace) :
    (m.writeNat a n v).wf = true := by
  induction n generalizing a v with
  | zero => exact h
  | succ n ih =>
    unfold Memory.writeNat
    exact Memory.wf_write _ (ih _ (by omega)) (by omega)

/-- A run written inside the address space keeps the canonical form. -/
theorem Memory.wf_writeRun {m : Memory} {n a : Nat} {vs : List (BitVec 32)} (h : m.wf = true)
    (ha : a + vs.length * n ≤ Config.addressSpace) : (m.writeRun n a vs).wf = true := by
  induction vs generalizing a with
  | nil => exact h
  | cons v vs ih =>
    rw [List.length_cons, Nat.succ_mul] at ha
    unfold Memory.writeRun
    exact Memory.wf_writeNat _ (ih (by omega)) (by omega)

end Sys2Proof.Machine
end

