-- ==== Sys2Proof/Laws/State.lean ====
section
/-! SUPPORT. One lemma per field per update of the state, so that no proof unfolds a record update. -/

namespace Sys2Proof.Machine

/-! ### respond -/

@[simp] theorem State.respond_mode (s : State) (r0 r1 r2 r3 : BitVec 32) : (s.respond r0 r1 r2 r3).mode = s.mode := rfl
@[simp] theorem State.respond_width (s : State) (r0 r1 r2 r3 : BitVec 32) :
    (s.respond r0 r1 r2 r3).width = s.width := rfl
@[simp] theorem State.respond_height (s : State) (r0 r1 r2 r3 : BitVec 32) :
    (s.respond r0 r1 r2 r3).height = s.height := rfl
@[simp] theorem State.respond_wpl (s : State) (r0 r1 r2 r3 : BitVec 32) : (s.respond r0 r1 r2 r3).wpl = s.wpl := rfl
@[simp] theorem State.respond_topLine (s : State) (r0 r1 r2 r3 : BitVec 32) :
    (s.respond r0 r1 r2 r3).topLine = s.topLine := rfl
@[simp] theorem State.respond_planeBase0 (s : State) (r0 r1 r2 r3 : BitVec 32) :
    (s.respond r0 r1 r2 r3).planeBase0 = s.planeBase0 := rfl
@[simp] theorem State.respond_planeBase1 (s : State) (r0 r1 r2 r3 : BitVec 32) :
    (s.respond r0 r1 r2 r3).planeBase1 = s.planeBase1 := rfl
@[simp] theorem State.respond_activeIndex (s : State) (r0 r1 r2 r3 : BitVec 32) :
    (s.respond r0 r1 r2 r3).activeIndex = s.activeIndex := rfl
@[simp] theorem State.respond_flipPending (s : State) (r0 r1 r2 r3 : BitVec 32) :
    (s.respond r0 r1 r2 r3).flipPending = s.flipPending := rfl
@[simp] theorem State.respond_palette0 (s : State) (r0 r1 r2 r3 : BitVec 32) :
    (s.respond r0 r1 r2 r3).palette0 = s.palette0 := rfl
@[simp] theorem State.respond_palette1 (s : State) (r0 r1 r2 r3 : BitVec 32) :
    (s.respond r0 r1 r2 r3).palette1 = s.palette1 := rfl
@[simp] theorem State.respond_bgPresent (s : State) (r0 r1 r2 r3 : BitVec 32) :
    (s.respond r0 r1 r2 r3).bgPresent = s.bgPresent := rfl
@[simp] theorem State.respond_bgBase (s : State) (r0 r1 r2 r3 : BitVec 32) :
    (s.respond r0 r1 r2 r3).bgBase = s.bgBase := rfl
@[simp] theorem State.respond_mem (s : State) (r0 r1 r2 r3 : BitVec 32) : (s.respond r0 r1 r2 r3).mem = s.mem := rfl
@[simp] theorem State.respond_arenaNext (s : State) (r0 r1 r2 r3 : BitVec 32) :
    (s.respond r0 r1 r2 r3).arenaNext = s.arenaNext := rfl
@[simp] theorem State.respond_allocatorStopped (s : State) (r0 r1 r2 r3 : BitVec 32) :
    (s.respond r0 r1 r2 r3).allocatorStopped = s.allocatorStopped := rfl
@[simp] theorem State.respond_platform (s : State) (r0 r1 r2 r3 : BitVec 32) :
    (s.respond r0 r1 r2 r3).platform = s.platform := rfl
@[simp] theorem State.respond_response (s : State) (r0 r1 r2 r3 : BitVec 32) :
    (s.respond r0 r1 r2 r3).response = some ⟨.ok, r0, r1, r2, r3⟩ := rfl
@[simp] theorem State.respond_portT (s : State) (r0 r1 r2 r3 : BitVec 32) :
    (s.respond r0 r1 r2 r3).portT = s.portT := rfl
@[simp] theorem State.respond_portD (s : State) (r0 r1 r2 r3 : BitVec 32) :
    (s.respond r0 r1 r2 r3).portD = s.portD := rfl
@[simp] theorem State.respond_resetAsserted (s : State) (r0 r1 r2 r3 : BitVec 32) :
    (s.respond r0 r1 r2 r3).resetAsserted = s.resetAsserted := rfl
@[simp] theorem State.respond_lastRead (s : State) (r0 r1 r2 r3 : BitVec 32) :
    (s.respond r0 r1 r2 r3).lastRead = s.lastRead := rfl
@[simp] theorem State.respond_pending (s : State) (r0 r1 r2 r3 : BitVec 32) :
    (s.respond r0 r1 r2 r3).pending = s.pending := rfl

/-! ### done -/

@[simp] theorem State.done_mode (s : State) : (s.done).mode = s.mode := rfl
@[simp] theorem State.done_width (s : State) : (s.done).width = s.width := rfl
@[simp] theorem State.done_height (s : State) : (s.done).height = s.height := rfl
@[simp] theorem State.done_wpl (s : State) : (s.done).wpl = s.wpl := rfl
@[simp] theorem State.done_topLine (s : State) : (s.done).topLine = s.topLine := rfl
@[simp] theorem State.done_planeBase0 (s : State) : (s.done).planeBase0 = s.planeBase0 := rfl
@[simp] theorem State.done_planeBase1 (s : State) : (s.done).planeBase1 = s.planeBase1 := rfl
@[simp] theorem State.done_activeIndex (s : State) : (s.done).activeIndex = s.activeIndex := rfl
@[simp] theorem State.done_flipPending (s : State) : (s.done).flipPending = s.flipPending := rfl
@[simp] theorem State.done_palette0 (s : State) : (s.done).palette0 = s.palette0 := rfl
@[simp] theorem State.done_palette1 (s : State) : (s.done).palette1 = s.palette1 := rfl
@[simp] theorem State.done_bgPresent (s : State) : (s.done).bgPresent = s.bgPresent := rfl
@[simp] theorem State.done_bgBase (s : State) : (s.done).bgBase = s.bgBase := rfl
@[simp] theorem State.done_mem (s : State) : (s.done).mem = s.mem := rfl
@[simp] theorem State.done_arenaNext (s : State) : (s.done).arenaNext = s.arenaNext := rfl
@[simp] theorem State.done_allocatorStopped (s : State) : (s.done).allocatorStopped = s.allocatorStopped := rfl
@[simp] theorem State.done_platform (s : State) : (s.done).platform = s.platform := rfl
@[simp] theorem State.done_response (s : State) : (s.done).response = some ⟨.ok, 0, 0, 0, 0⟩ := rfl
@[simp] theorem State.done_portT (s : State) : (s.done).portT = s.portT := rfl
@[simp] theorem State.done_portD (s : State) : (s.done).portD = s.portD := rfl
@[simp] theorem State.done_resetAsserted (s : State) : (s.done).resetAsserted = s.resetAsserted := rfl
@[simp] theorem State.done_lastRead (s : State) : (s.done).lastRead = s.lastRead := rfl
@[simp] theorem State.done_pending (s : State) : (s.done).pending = s.pending := rfl

/-! ### reject -/

@[simp] theorem State.reject_mode (s : State) (st : Status) : (s.reject st).mode = s.mode := rfl
@[simp] theorem State.reject_width (s : State) (st : Status) : (s.reject st).width = s.width := rfl
@[simp] theorem State.reject_height (s : State) (st : Status) : (s.reject st).height = s.height := rfl
@[simp] theorem State.reject_wpl (s : State) (st : Status) : (s.reject st).wpl = s.wpl := rfl
@[simp] theorem State.reject_topLine (s : State) (st : Status) : (s.reject st).topLine = s.topLine := rfl
@[simp] theorem State.reject_planeBase0 (s : State) (st : Status) : (s.reject st).planeBase0 = s.planeBase0 := rfl
@[simp] theorem State.reject_planeBase1 (s : State) (st : Status) : (s.reject st).planeBase1 = s.planeBase1 := rfl
@[simp] theorem State.reject_activeIndex (s : State) (st : Status) : (s.reject st).activeIndex = s.activeIndex := rfl
@[simp] theorem State.reject_flipPending (s : State) (st : Status) : (s.reject st).flipPending = s.flipPending := rfl
@[simp] theorem State.reject_palette0 (s : State) (st : Status) : (s.reject st).palette0 = s.palette0 := rfl
@[simp] theorem State.reject_palette1 (s : State) (st : Status) : (s.reject st).palette1 = s.palette1 := rfl
@[simp] theorem State.reject_bgPresent (s : State) (st : Status) : (s.reject st).bgPresent = s.bgPresent := rfl
@[simp] theorem State.reject_bgBase (s : State) (st : Status) : (s.reject st).bgBase = s.bgBase := rfl
@[simp] theorem State.reject_mem (s : State) (st : Status) : (s.reject st).mem = s.mem := rfl
@[simp] theorem State.reject_arenaNext (s : State) (st : Status) : (s.reject st).arenaNext = s.arenaNext := rfl
@[simp] theorem State.reject_allocatorStopped (s : State) (st : Status) :
    (s.reject st).allocatorStopped = s.allocatorStopped := rfl
@[simp] theorem State.reject_platform (s : State) (st : Status) : (s.reject st).platform = s.platform := rfl
@[simp] theorem State.reject_response (s : State) (st : Status) : (s.reject st).response = some ⟨st, 0, 0, 0, 0⟩ := rfl
@[simp] theorem State.reject_portT (s : State) (st : Status) : (s.reject st).portT = s.portT := rfl
@[simp] theorem State.reject_portD (s : State) (st : Status) : (s.reject st).portD = s.portD := rfl
@[simp] theorem State.reject_resetAsserted (s : State) (st : Status) :
    (s.reject st).resetAsserted = s.resetAsserted := rfl
@[simp] theorem State.reject_lastRead (s : State) (st : Status) : (s.reject st).lastRead = s.lastRead := rfl
@[simp] theorem State.reject_pending (s : State) (st : Status) : (s.reject st).pending = s.pending := rfl

/-! ### noResponse -/

@[simp] theorem State.noResponse_mode (s : State) : (s.noResponse).mode = s.mode := rfl
@[simp] theorem State.noResponse_width (s : State) : (s.noResponse).width = s.width := rfl
@[simp] theorem State.noResponse_height (s : State) : (s.noResponse).height = s.height := rfl
@[simp] theorem State.noResponse_wpl (s : State) : (s.noResponse).wpl = s.wpl := rfl
@[simp] theorem State.noResponse_topLine (s : State) : (s.noResponse).topLine = s.topLine := rfl
@[simp] theorem State.noResponse_planeBase0 (s : State) : (s.noResponse).planeBase0 = s.planeBase0 := rfl
@[simp] theorem State.noResponse_planeBase1 (s : State) : (s.noResponse).planeBase1 = s.planeBase1 := rfl
@[simp] theorem State.noResponse_activeIndex (s : State) : (s.noResponse).activeIndex = s.activeIndex := rfl
@[simp] theorem State.noResponse_flipPending (s : State) : (s.noResponse).flipPending = s.flipPending := rfl
@[simp] theorem State.noResponse_palette0 (s : State) : (s.noResponse).palette0 = s.palette0 := rfl
@[simp] theorem State.noResponse_palette1 (s : State) : (s.noResponse).palette1 = s.palette1 := rfl
@[simp] theorem State.noResponse_bgPresent (s : State) : (s.noResponse).bgPresent = s.bgPresent := rfl
@[simp] theorem State.noResponse_bgBase (s : State) : (s.noResponse).bgBase = s.bgBase := rfl
@[simp] theorem State.noResponse_mem (s : State) : (s.noResponse).mem = s.mem := rfl
@[simp] theorem State.noResponse_arenaNext (s : State) : (s.noResponse).arenaNext = s.arenaNext := rfl
@[simp] theorem State.noResponse_allocatorStopped (s : State) :
    (s.noResponse).allocatorStopped = s.allocatorStopped := rfl
@[simp] theorem State.noResponse_platform (s : State) : (s.noResponse).platform = s.platform := rfl
@[simp] theorem State.noResponse_response (s : State) : (s.noResponse).response = none := rfl
@[simp] theorem State.noResponse_portT (s : State) : (s.noResponse).portT = s.portT := rfl
@[simp] theorem State.noResponse_portD (s : State) : (s.noResponse).portD = s.portD := rfl
@[simp] theorem State.noResponse_resetAsserted (s : State) : (s.noResponse).resetAsserted = s.resetAsserted := rfl
@[simp] theorem State.noResponse_lastRead (s : State) : (s.noResponse).lastRead = s.lastRead := rfl
@[simp] theorem State.noResponse_pending (s : State) : (s.noResponse).pending = s.pending := rfl

/-! ### raiseFatal -/

@[simp] theorem State.raiseFatal_mode (s : State) : (s.raiseFatal).mode = .halted := rfl
@[simp] theorem State.raiseFatal_width (s : State) : (s.raiseFatal).width = s.width := rfl
@[simp] theorem State.raiseFatal_height (s : State) : (s.raiseFatal).height = s.height := rfl
@[simp] theorem State.raiseFatal_wpl (s : State) : (s.raiseFatal).wpl = s.wpl := rfl
@[simp] theorem State.raiseFatal_topLine (s : State) : (s.raiseFatal).topLine = s.topLine := rfl
@[simp] theorem State.raiseFatal_planeBase0 (s : State) : (s.raiseFatal).planeBase0 = s.planeBase0 := rfl
@[simp] theorem State.raiseFatal_planeBase1 (s : State) : (s.raiseFatal).planeBase1 = s.planeBase1 := rfl
@[simp] theorem State.raiseFatal_activeIndex (s : State) : (s.raiseFatal).activeIndex = s.activeIndex := rfl
@[simp] theorem State.raiseFatal_flipPending (s : State) : (s.raiseFatal).flipPending = s.flipPending := rfl
@[simp] theorem State.raiseFatal_palette0 (s : State) : (s.raiseFatal).palette0 = s.palette0 := rfl
@[simp] theorem State.raiseFatal_palette1 (s : State) : (s.raiseFatal).palette1 = s.palette1 := rfl
@[simp] theorem State.raiseFatal_bgPresent (s : State) : (s.raiseFatal).bgPresent = s.bgPresent := rfl
@[simp] theorem State.raiseFatal_bgBase (s : State) : (s.raiseFatal).bgBase = s.bgBase := rfl
@[simp] theorem State.raiseFatal_mem (s : State) : (s.raiseFatal).mem = s.mem := rfl
@[simp] theorem State.raiseFatal_arenaNext (s : State) : (s.raiseFatal).arenaNext = s.arenaNext := rfl
@[simp] theorem State.raiseFatal_allocatorStopped (s : State) :
    (s.raiseFatal).allocatorStopped = s.allocatorStopped := rfl
@[simp] theorem State.raiseFatal_platform (s : State) : (s.raiseFatal).platform = s.platform := rfl
@[simp] theorem State.raiseFatal_response (s : State) : (s.raiseFatal).response = none := rfl
@[simp] theorem State.raiseFatal_portT (s : State) : (s.raiseFatal).portT = s.portT := rfl
@[simp] theorem State.raiseFatal_portD (s : State) : (s.raiseFatal).portD = s.portD := rfl
@[simp] theorem State.raiseFatal_resetAsserted (s : State) : (s.raiseFatal).resetAsserted = s.resetAsserted := rfl
@[simp] theorem State.raiseFatal_lastRead (s : State) : (s.raiseFatal).lastRead = s.lastRead := rfl
@[simp] theorem State.raiseFatal_pending (s : State) : (s.raiseFatal).pending = s.pending := rfl

/-! ### clearBlock -/

@[simp] theorem State.clearBlock_mode (s : State) : (s.clearBlock).mode = .unconfigured := rfl
@[simp] theorem State.clearBlock_width (s : State) : (s.clearBlock).width = 0 := rfl
@[simp] theorem State.clearBlock_height (s : State) : (s.clearBlock).height = 0 := rfl
@[simp] theorem State.clearBlock_wpl (s : State) : (s.clearBlock).wpl = 0 := rfl
@[simp] theorem State.clearBlock_topLine (s : State) : (s.clearBlock).topLine = 0 := rfl
@[simp] theorem State.clearBlock_planeBase0 (s : State) : (s.clearBlock).planeBase0 = 0 := rfl
@[simp] theorem State.clearBlock_planeBase1 (s : State) : (s.clearBlock).planeBase1 = 0 := rfl
@[simp] theorem State.clearBlock_activeIndex (s : State) : (s.clearBlock).activeIndex = false := rfl
@[simp] theorem State.clearBlock_flipPending (s : State) : (s.clearBlock).flipPending = false := rfl
@[simp] theorem State.clearBlock_palette0 (s : State) : (s.clearBlock).palette0 = 0 := rfl
@[simp] theorem State.clearBlock_palette1 (s : State) : (s.clearBlock).palette1 = 0 := rfl
@[simp] theorem State.clearBlock_bgPresent (s : State) : (s.clearBlock).bgPresent = false := rfl
@[simp] theorem State.clearBlock_bgBase (s : State) : (s.clearBlock).bgBase = 0 := rfl
@[simp] theorem State.clearBlock_mem (s : State) : (s.clearBlock).mem = s.mem := rfl
@[simp] theorem State.clearBlock_arenaNext (s : State) : (s.clearBlock).arenaNext = s.arenaNext := rfl
@[simp] theorem State.clearBlock_allocatorStopped (s : State) :
    (s.clearBlock).allocatorStopped = s.allocatorStopped := rfl
@[simp] theorem State.clearBlock_platform (s : State) : (s.clearBlock).platform = s.platform := rfl
@[simp] theorem State.clearBlock_response (s : State) : (s.clearBlock).response = s.response := rfl
@[simp] theorem State.clearBlock_portT (s : State) : (s.clearBlock).portT = s.portT := rfl
@[simp] theorem State.clearBlock_portD (s : State) : (s.clearBlock).portD = s.portD := rfl
@[simp] theorem State.clearBlock_resetAsserted (s : State) : (s.clearBlock).resetAsserted = s.resetAsserted := rfl
@[simp] theorem State.clearBlock_lastRead (s : State) : (s.clearBlock).lastRead = s.lastRead := rfl
@[simp] theorem State.clearBlock_pending (s : State) : (s.clearBlock).pending = s.pending := rfl

/-! ### resetBlock -/

@[simp] theorem State.resetBlock_mode (s : State) : (s.resetBlock).mode = .unconfigured := rfl
@[simp] theorem State.resetBlock_width (s : State) : (s.resetBlock).width = 0 := rfl
@[simp] theorem State.resetBlock_height (s : State) : (s.resetBlock).height = 0 := rfl
@[simp] theorem State.resetBlock_wpl (s : State) : (s.resetBlock).wpl = 0 := rfl
@[simp] theorem State.resetBlock_topLine (s : State) : (s.resetBlock).topLine = 0 := rfl
@[simp] theorem State.resetBlock_planeBase0 (s : State) : (s.resetBlock).planeBase0 = 0 := rfl
@[simp] theorem State.resetBlock_planeBase1 (s : State) : (s.resetBlock).planeBase1 = 0 := rfl
@[simp] theorem State.resetBlock_activeIndex (s : State) : (s.resetBlock).activeIndex = false := rfl
@[simp] theorem State.resetBlock_flipPending (s : State) : (s.resetBlock).flipPending = false := rfl
@[simp] theorem State.resetBlock_palette0 (s : State) : (s.resetBlock).palette0 = 0 := rfl
@[simp] theorem State.resetBlock_palette1 (s : State) : (s.resetBlock).palette1 = 0 := rfl
@[simp] theorem State.resetBlock_bgPresent (s : State) : (s.resetBlock).bgPresent = false := rfl
@[simp] theorem State.resetBlock_bgBase (s : State) : (s.resetBlock).bgBase = 0 := rfl
@[simp] theorem State.resetBlock_mem (s : State) : (s.resetBlock).mem = s.mem := rfl
@[simp] theorem State.resetBlock_arenaNext (s : State) : (s.resetBlock).arenaNext = s.arenaNext := rfl
@[simp] theorem State.resetBlock_allocatorStopped (s : State) :
    (s.resetBlock).allocatorStopped = s.allocatorStopped := rfl
@[simp] theorem State.resetBlock_platform (s : State) : (s.resetBlock).platform = s.platform := rfl
@[simp] theorem State.resetBlock_response (s : State) : (s.resetBlock).response = none := rfl
@[simp] theorem State.resetBlock_portT (s : State) : (s.resetBlock).portT = s.portT.drop := rfl
@[simp] theorem State.resetBlock_portD (s : State) : (s.resetBlock).portD = s.portD.drop := rfl
@[simp] theorem State.resetBlock_resetAsserted (s : State) : (s.resetBlock).resetAsserted = s.resetAsserted := rfl
@[simp] theorem State.resetBlock_lastRead (s : State) : (s.resetBlock).lastRead = s.lastRead := rfl
@[simp] theorem State.resetBlock_pending (s : State) : (s.resetBlock).pending = s.pending := rfl

/-! ### flip -/

@[simp] theorem State.flip_mode (s : State) : (s.flip).mode = s.mode := rfl
@[simp] theorem State.flip_width (s : State) : (s.flip).width = s.width := rfl
@[simp] theorem State.flip_height (s : State) : (s.flip).height = s.height := rfl
@[simp] theorem State.flip_wpl (s : State) : (s.flip).wpl = s.wpl := rfl
@[simp] theorem State.flip_topLine (s : State) : (s.flip).topLine = s.topLine := rfl
@[simp] theorem State.flip_planeBase0 (s : State) : (s.flip).planeBase0 = s.planeBase0 := rfl
@[simp] theorem State.flip_planeBase1 (s : State) : (s.flip).planeBase1 = s.planeBase1 := rfl
@[simp] theorem State.flip_activeIndex (s : State) : (s.flip).activeIndex = !s.activeIndex := rfl
@[simp] theorem State.flip_flipPending (s : State) : (s.flip).flipPending = s.flipPending := rfl
@[simp] theorem State.flip_palette0 (s : State) : (s.flip).palette0 = s.palette0 := rfl
@[simp] theorem State.flip_palette1 (s : State) : (s.flip).palette1 = s.palette1 := rfl
@[simp] theorem State.flip_bgPresent (s : State) : (s.flip).bgPresent = s.bgPresent := rfl
@[simp] theorem State.flip_bgBase (s : State) : (s.flip).bgBase = s.bgBase := rfl
@[simp] theorem State.flip_mem (s : State) : (s.flip).mem = s.mem := rfl
@[simp] theorem State.flip_arenaNext (s : State) : (s.flip).arenaNext = s.arenaNext := rfl
@[simp] theorem State.flip_allocatorStopped (s : State) : (s.flip).allocatorStopped = s.allocatorStopped := rfl
@[simp] theorem State.flip_platform (s : State) : (s.flip).platform = s.platform := rfl
@[simp] theorem State.flip_response (s : State) : (s.flip).response = s.response := rfl
@[simp] theorem State.flip_portT (s : State) : (s.flip).portT = s.portT := rfl
@[simp] theorem State.flip_portD (s : State) : (s.flip).portD = s.portD := rfl
@[simp] theorem State.flip_resetAsserted (s : State) : (s.flip).resetAsserted = s.resetAsserted := rfl
@[simp] theorem State.flip_lastRead (s : State) : (s.flip).lastRead = s.lastRead := rfl
@[simp] theorem State.flip_pending (s : State) : (s.flip).pending = s.pending := rfl

/-! ### consumeFlip -/

@[simp] theorem State.consumeFlip_mode (s : State) : (s.consumeFlip).mode = s.mode := rfl
@[simp] theorem State.consumeFlip_width (s : State) : (s.consumeFlip).width = s.width := rfl
@[simp] theorem State.consumeFlip_height (s : State) : (s.consumeFlip).height = s.height := rfl
@[simp] theorem State.consumeFlip_wpl (s : State) : (s.consumeFlip).wpl = s.wpl := rfl
@[simp] theorem State.consumeFlip_topLine (s : State) : (s.consumeFlip).topLine = s.topLine := rfl
@[simp] theorem State.consumeFlip_planeBase0 (s : State) : (s.consumeFlip).planeBase0 = s.planeBase0 := rfl
@[simp] theorem State.consumeFlip_planeBase1 (s : State) : (s.consumeFlip).planeBase1 = s.planeBase1 := rfl
@[simp] theorem State.consumeFlip_activeIndex (s : State) :
    (s.consumeFlip).activeIndex = if s.flipPending then !s.activeIndex else s.activeIndex := rfl
@[simp] theorem State.consumeFlip_flipPending (s : State) : (s.consumeFlip).flipPending = false := rfl
@[simp] theorem State.consumeFlip_palette0 (s : State) : (s.consumeFlip).palette0 = s.palette0 := rfl
@[simp] theorem State.consumeFlip_palette1 (s : State) : (s.consumeFlip).palette1 = s.palette1 := rfl
@[simp] theorem State.consumeFlip_bgPresent (s : State) : (s.consumeFlip).bgPresent = s.bgPresent := rfl
@[simp] theorem State.consumeFlip_bgBase (s : State) : (s.consumeFlip).bgBase = s.bgBase := rfl
@[simp] theorem State.consumeFlip_mem (s : State) : (s.consumeFlip).mem = s.mem := rfl
@[simp] theorem State.consumeFlip_arenaNext (s : State) : (s.consumeFlip).arenaNext = s.arenaNext := rfl
@[simp] theorem State.consumeFlip_allocatorStopped (s : State) :
    (s.consumeFlip).allocatorStopped = s.allocatorStopped := rfl
@[simp] theorem State.consumeFlip_platform (s : State) : (s.consumeFlip).platform = s.platform := rfl
@[simp] theorem State.consumeFlip_response (s : State) : (s.consumeFlip).response = s.response := rfl
@[simp] theorem State.consumeFlip_portT (s : State) : (s.consumeFlip).portT = s.portT := rfl
@[simp] theorem State.consumeFlip_portD (s : State) : (s.consumeFlip).portD = s.portD := rfl
@[simp] theorem State.consumeFlip_resetAsserted (s : State) : (s.consumeFlip).resetAsserted = s.resetAsserted := rfl
@[simp] theorem State.consumeFlip_lastRead (s : State) : (s.consumeFlip).lastRead = s.lastRead := rfl
@[simp] theorem State.consumeFlip_pending (s : State) : (s.consumeFlip).pending = s.pending := rfl

/-! ### construct -/

@[simp] theorem State.construct_mode (s : State) (w h t : Dim) (bg : Option Addr) (p0 p1 n : Nat) :
    (s.construct w h t bg p0 p1 n).mode = .ready := rfl
@[simp] theorem State.construct_width (s : State) (w h t : Dim) (bg : Option Addr) (p0 p1 n : Nat) :
    (s.construct w h t bg p0 p1 n).width = w := rfl
@[simp] theorem State.construct_height (s : State) (w h t : Dim) (bg : Option Addr) (p0 p1 n : Nat) :
    (s.construct w h t bg p0 p1 n).height = h := rfl
@[simp] theorem State.construct_wpl (s : State) (w h t : Dim) (bg : Option Addr) (p0 p1 n : Nat) :
    (s.construct w h t bg p0 p1 n).wpl = w / 32 := rfl
@[simp] theorem State.construct_topLine (s : State) (w h t : Dim) (bg : Option Addr) (p0 p1 n : Nat) :
    (s.construct w h t bg p0 p1 n).topLine = t := rfl
@[simp] theorem State.construct_planeBase0 (s : State) (w h t : Dim) (bg : Option Addr) (p0 p1 n : Nat) :
    (s.construct w h t bg p0 p1 n).planeBase0 = BitVec.ofNat 32 p0 := rfl
@[simp] theorem State.construct_planeBase1 (s : State) (w h t : Dim) (bg : Option Addr) (p0 p1 n : Nat) :
    (s.construct w h t bg p0 p1 n).planeBase1 = BitVec.ofNat 32 p1 := rfl
@[simp] theorem State.construct_activeIndex (s : State) (w h t : Dim) (bg : Option Addr) (p0 p1 n : Nat) :
    (s.construct w h t bg p0 p1 n).activeIndex = false := rfl
@[simp] theorem State.construct_flipPending (s : State) (w h t : Dim) (bg : Option Addr) (p0 p1 n : Nat) :
    (s.construct w h t bg p0 p1 n).flipPending = false := rfl
@[simp] theorem State.construct_palette0 (s : State) (w h t : Dim) (bg : Option Addr) (p0 p1 n : Nat) :
    (s.construct w h t bg p0 p1 n).palette0 = s.platform.palOff := rfl
@[simp] theorem State.construct_palette1 (s : State) (w h t : Dim) (bg : Option Addr) (p0 p1 n : Nat) :
    (s.construct w h t bg p0 p1 n).palette1 = s.platform.palOn := rfl
@[simp] theorem State.construct_bgPresent (s : State) (w h t : Dim) (bg : Option Addr) (p0 p1 n : Nat) :
    (s.construct w h t bg p0 p1 n).bgPresent = bg.isSome := rfl
@[simp] theorem State.construct_bgBase (s : State) (w h t : Dim) (bg : Option Addr) (p0 p1 n : Nat) :
    (s.construct w h t bg p0 p1 n).bgBase = bg.getD 0 := rfl
@[simp] theorem State.construct_mem (s : State) (w h t : Dim) (bg : Option Addr) (p0 p1 n : Nat) :
    (s.construct w h t bg p0 p1 n).mem = s.mem := rfl
@[simp] theorem State.construct_arenaNext (s : State) (w h t : Dim) (bg : Option Addr) (p0 p1 n : Nat) :
    (s.construct w h t bg p0 p1 n).arenaNext = n := rfl
@[simp] theorem State.construct_allocatorStopped (s : State) (w h t : Dim) (bg : Option Addr) (p0 p1 n : Nat) :
    (s.construct w h t bg p0 p1 n).allocatorStopped = s.allocatorStopped := rfl
@[simp] theorem State.construct_platform (s : State) (w h t : Dim) (bg : Option Addr) (p0 p1 n : Nat) :
    (s.construct w h t bg p0 p1 n).platform = s.platform := rfl
@[simp] theorem State.construct_response (s : State) (w h t : Dim) (bg : Option Addr) (p0 p1 n : Nat) :
    (s.construct w h t bg p0 p1 n).response = s.response := rfl
@[simp] theorem State.construct_portT (s : State) (w h t : Dim) (bg : Option Addr) (p0 p1 n : Nat) :
    (s.construct w h t bg p0 p1 n).portT = s.portT := rfl
@[simp] theorem State.construct_portD (s : State) (w h t : Dim) (bg : Option Addr) (p0 p1 n : Nat) :
    (s.construct w h t bg p0 p1 n).portD = s.portD := rfl
@[simp] theorem State.construct_resetAsserted (s : State) (w h t : Dim) (bg : Option Addr) (p0 p1 n : Nat) :
    (s.construct w h t bg p0 p1 n).resetAsserted = s.resetAsserted := rfl
@[simp] theorem State.construct_lastRead (s : State) (w h t : Dim) (bg : Option Addr) (p0 p1 n : Nat) :
    (s.construct w h t bg p0 p1 n).lastRead = s.lastRead := rfl
@[simp] theorem State.construct_pending (s : State) (w h t : Dim) (bg : Option Addr) (p0 p1 n : Nat) :
    (s.construct w h t bg p0 p1 n).pending = s.pending := rfl

/-! ### allocationFails -/

@[simp] theorem State.allocationFails_mode (s : State) : (s.allocationFails).mode = s.mode := rfl
@[simp] theorem State.allocationFails_width (s : State) : (s.allocationFails).width = s.width := rfl
@[simp] theorem State.allocationFails_height (s : State) : (s.allocationFails).height = s.height := rfl
@[simp] theorem State.allocationFails_wpl (s : State) : (s.allocationFails).wpl = s.wpl := rfl
@[simp] theorem State.allocationFails_topLine (s : State) : (s.allocationFails).topLine = s.topLine := rfl
@[simp] theorem State.allocationFails_planeBase0 (s : State) : (s.allocationFails).planeBase0 = s.planeBase0 := rfl
@[simp] theorem State.allocationFails_planeBase1 (s : State) : (s.allocationFails).planeBase1 = s.planeBase1 := rfl
@[simp] theorem State.allocationFails_activeIndex (s : State) : (s.allocationFails).activeIndex = s.activeIndex := rfl
@[simp] theorem State.allocationFails_flipPending (s : State) : (s.allocationFails).flipPending = s.flipPending := rfl
@[simp] theorem State.allocationFails_palette0 (s : State) : (s.allocationFails).palette0 = s.palette0 := rfl
@[simp] theorem State.allocationFails_palette1 (s : State) : (s.allocationFails).palette1 = s.palette1 := rfl
@[simp] theorem State.allocationFails_bgPresent (s : State) : (s.allocationFails).bgPresent = s.bgPresent := rfl
@[simp] theorem State.allocationFails_bgBase (s : State) : (s.allocationFails).bgBase = s.bgBase := rfl
@[simp] theorem State.allocationFails_mem (s : State) : (s.allocationFails).mem = s.mem := rfl
@[simp] theorem State.allocationFails_arenaNext (s : State) : (s.allocationFails).arenaNext = s.arenaNext := rfl
@[simp] theorem State.allocationFails_allocatorStopped (s : State) : (s.allocationFails).allocatorStopped = true := rfl
@[simp] theorem State.allocationFails_platform (s : State) : (s.allocationFails).platform = s.platform := rfl
@[simp] theorem State.allocationFails_response (s : State) : (s.allocationFails).response = none := rfl
@[simp] theorem State.allocationFails_portT (s : State) : (s.allocationFails).portT = s.portT := rfl
@[simp] theorem State.allocationFails_portD (s : State) : (s.allocationFails).portD = s.portD := rfl
@[simp] theorem State.allocationFails_resetAsserted (s : State) :
    (s.allocationFails).resetAsserted = s.resetAsserted := rfl
@[simp] theorem State.allocationFails_lastRead (s : State) : (s.allocationFails).lastRead = s.lastRead := rfl
@[simp] theorem State.allocationFails_pending (s : State) : (s.allocationFails).pending = s.pending := rfl

/-! ### describeBack -/

@[simp] theorem State.describeBack_mode (s : State) : (s.describeBack).mode = s.mode := rfl
@[simp] theorem State.describeBack_width (s : State) : (s.describeBack).width = s.width := rfl
@[simp] theorem State.describeBack_height (s : State) : (s.describeBack).height = s.height := rfl
@[simp] theorem State.describeBack_wpl (s : State) : (s.describeBack).wpl = s.wpl := rfl
@[simp] theorem State.describeBack_topLine (s : State) : (s.describeBack).topLine = s.topLine := rfl
@[simp] theorem State.describeBack_planeBase0 (s : State) : (s.describeBack).planeBase0 = s.planeBase0 := rfl
@[simp] theorem State.describeBack_planeBase1 (s : State) : (s.describeBack).planeBase1 = s.planeBase1 := rfl
@[simp] theorem State.describeBack_activeIndex (s : State) : (s.describeBack).activeIndex = s.activeIndex := rfl
@[simp] theorem State.describeBack_flipPending (s : State) : (s.describeBack).flipPending = s.flipPending := rfl
@[simp] theorem State.describeBack_palette0 (s : State) : (s.describeBack).palette0 = s.palette0 := rfl
@[simp] theorem State.describeBack_palette1 (s : State) : (s.describeBack).palette1 = s.palette1 := rfl
@[simp] theorem State.describeBack_bgPresent (s : State) : (s.describeBack).bgPresent = s.bgPresent := rfl
@[simp] theorem State.describeBack_bgBase (s : State) : (s.describeBack).bgBase = s.bgBase := rfl
@[simp] theorem State.describeBack_mem (s : State) : (s.describeBack).mem = s.mem := rfl
@[simp] theorem State.describeBack_arenaNext (s : State) : (s.describeBack).arenaNext = s.arenaNext := rfl
@[simp] theorem State.describeBack_allocatorStopped (s : State) :
    (s.describeBack).allocatorStopped = s.allocatorStopped := rfl
@[simp] theorem State.describeBack_platform (s : State) : (s.describeBack).platform = s.platform := rfl
@[simp] theorem State.describeBack_response (s : State) :
    (s.describeBack).response = some ⟨.ok, s.backBase, s.width.setWidth 32, s.height.setWidth 32, s.wpl.setWidth 32⟩ := rfl
@[simp] theorem State.describeBack_portT (s : State) : (s.describeBack).portT = s.portT := rfl
@[simp] theorem State.describeBack_portD (s : State) : (s.describeBack).portD = s.portD := rfl
@[simp] theorem State.describeBack_resetAsserted (s : State) : (s.describeBack).resetAsserted = s.resetAsserted := rfl
@[simp] theorem State.describeBack_lastRead (s : State) : (s.describeBack).lastRead = s.lastRead := rfl
@[simp] theorem State.describeBack_pending (s : State) : (s.describeBack).pending = s.pending := rfl

/-! ### advance -/

@[simp] theorem State.advance_mode (s : State) (rest : List Event) : (s.advance rest).mode = s.mode := rfl
@[simp] theorem State.advance_width (s : State) (rest : List Event) : (s.advance rest).width = s.width := rfl
@[simp] theorem State.advance_height (s : State) (rest : List Event) : (s.advance rest).height = s.height := rfl
@[simp] theorem State.advance_wpl (s : State) (rest : List Event) : (s.advance rest).wpl = s.wpl := rfl
@[simp] theorem State.advance_topLine (s : State) (rest : List Event) : (s.advance rest).topLine = s.topLine := rfl
@[simp] theorem State.advance_planeBase0 (s : State) (rest : List Event) : (s.advance rest).planeBase0 = s.planeBase0 := rfl
@[simp] theorem State.advance_planeBase1 (s : State) (rest : List Event) : (s.advance rest).planeBase1 = s.planeBase1 := rfl
@[simp] theorem State.advance_activeIndex (s : State) (rest : List Event) : (s.advance rest).activeIndex = s.activeIndex := rfl
@[simp] theorem State.advance_flipPending (s : State) (rest : List Event) : (s.advance rest).flipPending = s.flipPending := rfl
@[simp] theorem State.advance_palette0 (s : State) (rest : List Event) : (s.advance rest).palette0 = s.palette0 := rfl
@[simp] theorem State.advance_palette1 (s : State) (rest : List Event) : (s.advance rest).palette1 = s.palette1 := rfl
@[simp] theorem State.advance_bgPresent (s : State) (rest : List Event) : (s.advance rest).bgPresent = s.bgPresent := rfl
@[simp] theorem State.advance_bgBase (s : State) (rest : List Event) : (s.advance rest).bgBase = s.bgBase := rfl
@[simp] theorem State.advance_mem (s : State) (rest : List Event) : (s.advance rest).mem = s.mem := rfl
@[simp] theorem State.advance_arenaNext (s : State) (rest : List Event) : (s.advance rest).arenaNext = s.arenaNext := rfl
@[simp] theorem State.advance_allocatorStopped (s : State) (rest : List Event) : (s.advance rest).allocatorStopped = s.allocatorStopped := rfl
@[simp] theorem State.advance_platform (s : State) (rest : List Event) : (s.advance rest).platform = s.platform := rfl
@[simp] theorem State.advance_response (s : State) (rest : List Event) : (s.advance rest).response = s.response := rfl
@[simp] theorem State.advance_portT (s : State) (rest : List Event) : (s.advance rest).portT = s.portT := rfl
@[simp] theorem State.advance_portD (s : State) (rest : List Event) : (s.advance rest).portD = s.portD := rfl
@[simp] theorem State.advance_resetAsserted (s : State) (rest : List Event) : (s.advance rest).resetAsserted = s.resetAsserted := rfl
@[simp] theorem State.advance_lastRead (s : State) (rest : List Event) : (s.advance rest).lastRead = s.lastRead := rfl
@[simp] theorem State.advance_pending (s : State) (rest : List Event) : (s.advance rest).pending = rest := rfl

@[simp] theorem State.advance_portStuck (s : State) (rest : List Event) (p : Port) :
    (s.advance rest).portStuck p = s.portStuck p := by cases p <;> rfl

@[simp] theorem State.advance_agentStuck (s : State) (rest : List Event) (a : Agent) :
    (s.advance rest).agentStuck a = s.agentStuck a := by cases a <;> rfl

/-! ### setPort -/

@[simp] theorem State.setPort_mode (s : State) (p : Port) (v : PortState) :
    (s.setPort p v).mode = s.mode := by cases p <;> rfl
@[simp] theorem State.setPort_width (s : State) (p : Port) (v : PortState) :
    (s.setPort p v).width = s.width := by cases p <;> rfl
@[simp] theorem State.setPort_height (s : State) (p : Port) (v : PortState) :
    (s.setPort p v).height = s.height := by cases p <;> rfl
@[simp] theorem State.setPort_wpl (s : State) (p : Port) (v : PortState) :
    (s.setPort p v).wpl = s.wpl := by cases p <;> rfl
@[simp] theorem State.setPort_topLine (s : State) (p : Port) (v : PortState) :
    (s.setPort p v).topLine = s.topLine := by cases p <;> rfl
@[simp] theorem State.setPort_planeBase0 (s : State) (p : Port) (v : PortState) :
    (s.setPort p v).planeBase0 = s.planeBase0 := by cases p <;> rfl
@[simp] theorem State.setPort_planeBase1 (s : State) (p : Port) (v : PortState) :
    (s.setPort p v).planeBase1 = s.planeBase1 := by cases p <;> rfl
@[simp] theorem State.setPort_activeIndex (s : State) (p : Port) (v : PortState) :
    (s.setPort p v).activeIndex = s.activeIndex := by cases p <;> rfl
@[simp] theorem State.setPort_flipPending (s : State) (p : Port) (v : PortState) :
    (s.setPort p v).flipPending = s.flipPending := by cases p <;> rfl
@[simp] theorem State.setPort_palette0 (s : State) (p : Port) (v : PortState) :
    (s.setPort p v).palette0 = s.palette0 := by cases p <;> rfl
@[simp] theorem State.setPort_palette1 (s : State) (p : Port) (v : PortState) :
    (s.setPort p v).palette1 = s.palette1 := by cases p <;> rfl
@[simp] theorem State.setPort_bgPresent (s : State) (p : Port) (v : PortState) :
    (s.setPort p v).bgPresent = s.bgPresent := by cases p <;> rfl
@[simp] theorem State.setPort_bgBase (s : State) (p : Port) (v : PortState) :
    (s.setPort p v).bgBase = s.bgBase := by cases p <;> rfl
@[simp] theorem State.setPort_mem (s : State) (p : Port) (v : PortState) :
    (s.setPort p v).mem = s.mem := by cases p <;> rfl
@[simp] theorem State.setPort_arenaNext (s : State) (p : Port) (v : PortState) :
    (s.setPort p v).arenaNext = s.arenaNext := by cases p <;> rfl
@[simp] theorem State.setPort_allocatorStopped (s : State) (p : Port) (v : PortState) :
    (s.setPort p v).allocatorStopped = s.allocatorStopped := by cases p <;> rfl
@[simp] theorem State.setPort_platform (s : State) (p : Port) (v : PortState) :
    (s.setPort p v).platform = s.platform := by cases p <;> rfl
@[simp] theorem State.setPort_response (s : State) (p : Port) (v : PortState) :
    (s.setPort p v).response = s.response := by cases p <;> rfl
@[simp] theorem State.setPort_resetAsserted (s : State) (p : Port) (v : PortState) :
    (s.setPort p v).resetAsserted = s.resetAsserted := by cases p <;> rfl
@[simp] theorem State.setPort_lastRead (s : State) (p : Port) (v : PortState) :
    (s.setPort p v).lastRead = s.lastRead := by cases p <;> rfl
@[simp] theorem State.setPort_pending (s : State) (p : Port) (v : PortState) :
    (s.setPort p v).pending = s.pending := by cases p <;> rfl

@[simp] theorem State.port_setPort_same (s : State) (p : Port) (v : PortState) : (s.setPort p v).port p = v := by
  cases p <;> rfl

@[simp] theorem State.port_setPort_other (s : State) (p : Port) (v : PortState) :
    (s.setPort p v).port p.other = s.port p.other := by cases p <;> rfl

@[simp] theorem PortState.drop_waiting (p : PortState) : p.drop.waiting = none := rfl

@[simp] theorem PortState.drop_lastResponse (p : PortState) : p.drop.lastResponse = p.lastResponse := rfl

end Sys2Proof.Machine
end

