-- ==== Sys2Proof/Laws/Ops.lean ====
section
/-! SUPPORT. For each shared operation one lemma that says what it can do: admission, the allocator's calls, the ranges, the
rows the expander writes and the plane the copier writes. -/

namespace Sys2Proof.Machine

/-! ### Admission (30_encoding.md R89) -/

theorem State.whenReady_ready {s : State} (h : s.mode = .ready) (e : Result) : s.whenReady e = e := by
  simp [State.whenReady, h]

theorem State.whenReady_unconfigured {s : State} (h : s.mode = .unconfigured) (e : Result) :
    s.whenReady e = .next (s.reject .errState) := by
  simp [State.whenReady, h]

theorem State.whenReady_halted {s : State} (h : s.mode = .halted) (e : Result) :
    s.whenReady e = .next s.noResponse := by
  simp [State.whenReady, h]

theorem State.whenUnconfigured_unconfigured {s : State} (h : s.mode = .unconfigured) (e : Result) :
    s.whenUnconfigured e = e := by
  simp [State.whenUnconfigured, h]

theorem State.whenUnconfigured_ready {s : State} (h : s.mode = .ready) (e : Result) :
    s.whenUnconfigured e = .next (s.reject .errState) := by
  simp [State.whenUnconfigured, h]

theorem State.whenUnconfigured_halted {s : State} (h : s.mode = .halted) (e : Result) :
    s.whenUnconfigured e = .next s.noResponse := by
  simp [State.whenUnconfigured, h]

theorem State.unlessHalted_halted {s : State} (h : s.mode = .halted) (e : Result) :
    s.unlessHalted e = .next s.noResponse := by
  simp [State.unlessHalted, h]

theorem State.unlessHalted_running {s : State} (h : s.mode ≠ .halted) (e : Result) : s.unlessHalted e = e := by
  unfold State.unlessHalted
  split
  · exact absurd ‹_› h
  · rfl

/-- What a command that needs READY can answer with a next state. -/
theorem State.whenReady_next {s t : State} {e : Result} (h : s.whenReady e = .next t) :
    (s.mode = .ready ∧ e = .next t) ∨ (s.mode = .unconfigured ∧ t = s.reject .errState) ∨
      (s.mode = .halted ∧ t = s.noResponse) := by
  unfold State.whenReady at h
  split at h
  · exact Or.inl ⟨‹_›, h⟩
  · exact Or.inr (Or.inl ⟨‹_›, by cases h; rfl⟩)
  · exact Or.inr (Or.inr ⟨‹_›, by cases h; rfl⟩)

/-- What a command that needs UNCONFIGURED can answer with a next state. -/
theorem State.whenUnconfigured_next {s t : State} {e : Result} (h : s.whenUnconfigured e = .next t) :
    (s.mode = .unconfigured ∧ e = .next t) ∨ (s.mode = .ready ∧ t = s.reject .errState) ∨
      (s.mode = .halted ∧ t = s.noResponse) := by
  unfold State.whenUnconfigured at h
  split at h
  · exact Or.inl ⟨‹_›, h⟩
  · exact Or.inr (Or.inl ⟨‹_›, by cases h; rfl⟩)
  · exact Or.inr (Or.inr ⟨‹_›, by cases h; rfl⟩)

/-- A command with a color of PIXW bits is one that needs READY. -/
theorem State.withColor_fits {s : State} {color : Pixel} (h : s.platform.pixelWidth.fits color = true) (e : Result) :
    s.withColor color e = s.whenReady e := by
  simp [State.withColor, h]

/-- A command with a wider color is illegal. -/
theorem State.withColor_illegal {s : State} {color : Pixel} (h : s.platform.pixelWidth.fits color = false) (e : Result) :
    s.withColor color e = s.unlessHalted (.next (s.reject .errIllegal)) := by
  simp [State.withColor, h]

/-- What a command with a color can answer with a next state. -/
theorem State.withColor_next {s t : State} {color : Pixel} {e : Result} (h : s.withColor color e = .next t) :
    (s.platform.pixelWidth.fits color = true ∧ s.whenReady e = .next t) ∨
      (s.platform.pixelWidth.fits color = false ∧ s.mode ≠ .halted ∧ t = s.reject .errIllegal) ∨
      (s.mode = .halted ∧ t = s.noResponse) := by
  unfold State.withColor at h
  split at h
  · exact Or.inl ⟨‹_›, h⟩
  · rename_i hf
    unfold State.unlessHalted at h
    split at h
    · exact Or.inr (Or.inr ⟨‹_›, by cases h; rfl⟩)
    · rename_i hm
      exact Or.inr (Or.inl ⟨by simpa using hf, fun e => hm e, by cases h; rfl⟩)

/-- What a command admitted unless HALTED can answer with a next state. -/
theorem State.unlessHalted_next {s t : State} {e : Result} (h : s.unlessHalted e = .next t) :
    (s.mode ≠ .halted ∧ e = .next t) ∨ (s.mode = .halted ∧ t = s.noResponse) := by
  by_cases hm : s.mode = .halted
  · rw [State.unlessHalted_halted hm] at h
    exact Or.inr ⟨hm, by cases h; rfl⟩
  · rw [State.unlessHalted_running hm] at h
    exact Or.inl ⟨hm, h⟩

/-! ### Ranges -/

/-- Two ranges do not overlap exactly when they are apart. -/
theorem rangesOverlap_eq_false {a n b m : Nat} : rangesOverlap a n b m = false ↔ Apart a n b m := by
  simp only [rangesOverlap, Bool.and_eq_false_iff, decide_eq_false_iff_not]
  unfold Apart
  omega

theorem leavesSpace_eq_false {a n : Nat} : leavesSpace a n = false ↔ a + n ≤ Config.addressSpace := by
  simp [leavesSpace]

/-! ### The allocator (47_external_units.md R175, R176) -/

/-- Everything an allocator call that returns gives. -/
theorem allocate_eq_some {limit next count a next' : Nat} (h : allocate limit next count = some (a, next')) :
    a = next ∧ next' = next + count * Config.wordBytes ∧ next' ≤ limit ∧ next < Config.addressSpace := by
  unfold allocate at h
  split at h
  · rename_i hc
    simp only [Option.some.injEq, Prod.mk.injEq] at h
    omega
  · cases h

/-- INIT's two calls return exactly when the arena has room, and then what R176 says. -/
theorem State.allocatePlanes_eq_some {s : State} {count p0 p1 next : Nat}
    (h : s.allocatePlanes count = some (p0, p1, next)) :
    s.ArenaHasRoom count ∧ p0 = s.arenaNext ∧ p1 = s.arenaNext + count * Config.wordBytes ∧
      next = s.arenaNext + 2 * (count * Config.wordBytes) := by
  unfold State.allocatePlanes at h
  split at h
  · cases h
  · rename_i hs
    unfold Sys2Proof.Machine.allocatePlanes at h
    split at h
    · cases h
    · rename_i a1 n1 h1
      split at h
      · cases h
      · rename_i a2 n2 h2
        have e1 := allocate_eq_some h1
        have e2 := allocate_eq_some h2
        simp only [Option.some.injEq, Prod.mk.injEq] at h
        refine ⟨⟨by simpa using hs, ?_, ?_⟩, ?_, ?_, ?_⟩ <;> omega

/-- With room in the arena INIT's two calls return. -/
theorem State.allocatePlanes_of_room {s : State} {count : Nat} (h : s.ArenaHasRoom count) :
    s.allocatePlanes count = some (s.arenaNext, s.arenaNext + count * Config.wordBytes,
      s.arenaNext + 2 * (count * Config.wordBytes)) := by
  obtain ⟨h1, h2, h3⟩ := h
  have a1 : allocate s.platform.arenaLimit s.arenaNext count =
      some (s.arenaNext, s.arenaNext + count * Config.wordBytes) := by
    unfold allocate
    rw [if_pos ⟨by omega, by omega⟩]
  have a2 : allocate s.platform.arenaLimit (s.arenaNext + count * Config.wordBytes) count =
      some (s.arenaNext + count * Config.wordBytes, s.arenaNext + 2 * (count * Config.wordBytes)) := by
    unfold allocate
    rw [if_pos ⟨by omega, h3⟩]
    congr 2
    omega
  unfold State.allocatePlanes Sys2Proof.Machine.allocatePlanes
  simp [h1, a1, a2]

/-- Without room INIT's calls do not both return. -/
theorem State.allocatePlanes_of_no_room {s : State} {count : Nat} (h : ¬ s.ArenaHasRoom count) :
    s.allocatePlanes count = none := by
  cases e : s.allocatePlanes count with
  | none => rfl
  | some v => exact absurd (State.allocatePlanes_eq_some (p0 := v.1) (p1 := v.2.1) (next := v.2.2) e).1 h

/-! ### The row of a RASTERIZE (41_rasterize.md R113 to R115) -/

theorem State.rowInRange_eq_some {s : State} {line : Dim} {row : Nat} :
    s.rowInRange line = some row ↔ s.localRow line = (row : Int) ∧ row < s.height.toNat := by
  unfold State.rowInRange
  split
  · simp only [Option.some.injEq]
    omega
  · simp only [reduceCtorEq, false_iff]
    omega

theorem State.rowInRange_eq_none {s : State} {line : Dim} :
    s.rowInRange line = none ↔ s.localRow line < 0 ∨ (s.height.toNat : Int) ≤ s.localRow line := by
  unfold State.rowInRange
  split
  · simp only [reduceCtorEq, false_iff]
    omega
  · simp only [true_iff]
    omega

/-- A row is refused exactly when its preconditions do not hold (93_implementation_defined.md U2 to U5). -/
theorem State.rowRefusal_eq_none {s : State} {row dest : Nat} : s.rowRefusal row dest = none ↔ s.RowAllowed row dest := by
  unfold State.rowRefusal State.RowAllowed
  by_cases h0 : s.wpl = 0
  · simp [h0]
  · rw [if_neg h0]
    simp only [h0, false_or]
    by_cases h1 : leavesSpace (s.sourceRow row) s.rowBytes = true
    · have : ¬ s.sourceRow row + s.rowBytes ≤ Config.addressSpace := by
        simpa [leavesSpace] using h1
      simp [h1, this]
    have h1' := leavesSpace_eq_false.mp (by simpa using h1)
    by_cases h2 : dest % s.pixBytes = 0
    swap
    · simp [h1, h2]
    by_cases h3 : leavesSpace dest s.pixelRowBytes = true
    · have : ¬ dest + s.pixelRowBytes ≤ Config.addressSpace := by
        simpa [leavesSpace] using h3
      simp [h1, h2, h3, this]
    have h3' := leavesSpace_eq_false.mp (by simpa using h3)
    by_cases h4 : rangesOverlap dest s.pixelRowBytes (s.sourceRow row) s.rowBytes = true
    · have : ¬ Apart dest s.pixelRowBytes (s.sourceRow row) s.rowBytes := fun e => by
        simp [rangesOverlap_eq_false.mpr e] at h4
      simp only [Apart] at this
      simp [h1, h2, h3, h4, this]
    have h4' := rangesOverlap_eq_false.mp (by simpa using h4)
    rw [if_neg h1, if_neg (by simpa using h2), if_neg h3, if_neg h4]
    by_cases h5 : s.bgPresent = true
    swap
    · simp [h5, h1', h2, h3', h4']
    rw [if_neg (by simp [h5])]
    by_cases h6 : s.backgroundRow row % s.pixBytes = 0
    swap
    · simp [h5, h6]
    by_cases h7 : leavesSpace (s.backgroundRow row) s.pixelRowBytes = true
    · have : ¬ s.backgroundRow row + s.pixelRowBytes ≤ Config.addressSpace := by
        simpa [leavesSpace] using h7
      simp [h5, h6, h7, this]
    have h7' := leavesSpace_eq_false.mp (by simpa using h7)
    by_cases h8 : rangesOverlap dest s.pixelRowBytes (s.backgroundRow row) s.pixelRowBytes = true
    · have : ¬ Apart dest s.pixelRowBytes (s.backgroundRow row) s.pixelRowBytes := fun e => by
        simp [rangesOverlap_eq_false.mpr e] at h8
      simp only [Apart] at this
      simp [h5, h6, h7, h8, this]
    have h8' := rangesOverlap_eq_false.mp (by simpa using h8)
    rw [if_neg (by simpa using h6), if_neg h7, if_neg h8]
    exact iff_of_true rfl ⟨h1', h2, h3', h4', fun _ => ⟨h6, h7', h8'⟩⟩

/-- What step 4 of a RASTERIZE answers when it answers a state. -/
theorem State.rasterRow_ok {s t : State} {row dest : Nat} (h : s.rasterRow row dest = .ok t) :
    s.RowAllowed row dest ∧ t = { s with mem := s.expandRow row dest } := by
  unfold State.rasterRow at h
  split at h
  · cases h
  · rename_i hn
    cases h
    exact ⟨State.rowRefusal_eq_none.mp hn, rfl⟩

/-- Under its preconditions step 4 answers a state. -/
theorem State.rasterRow_of_allowed {s : State} {row dest : Nat} (h : s.RowAllowed row dest) :
    s.rasterRow row dest = .ok { s with mem := s.expandRow row dest } := by
  unfold State.rasterRow
  rw [State.rowRefusal_eq_none.mpr h]

theorem State.expandRow_plain {s : State} (h : s.bgPresent = false) (row dest : Nat) :
    s.expandRow row dest = expand s.platform s.mem (s.sourceRow row) s.palette0 s.palette1 dest s.wpl.toNat := by
  simp [State.expandRow, h]

theorem State.expandRow_overlay {s : State} (h : s.bgPresent = true) (row dest : Nat) :
    s.expandRow row dest = expandWithOverlay s.platform s.mem (s.sourceRow row) s.palette0 s.palette1 dest s.wpl.toNat
      (s.backgroundRow row) := by
  simp [State.expandRow, h]

/-- A row of the expander is a run of `WPL * BPW` pixels. -/
theorem State.expandRow_run (s : State) (row dest : Nat) :
    ∃ ps : List Pixel, ps.length * s.platform.pixelWidth.bytes = s.pixelRowBytes ∧
      s.expandRow row dest = s.mem.writeRun s.platform.pixelWidth.bytes dest ps := by
  unfold State.expandRow
  split
  · exact ⟨_, by simp [State.pixelRowBytes, State.rowPixels, State.pixBytes], rfl⟩
  · exact ⟨_, by simp [State.pixelRowBytes, State.rowPixels, State.pixBytes], rfl⟩

/-- The expander writes nothing outside the destination row. -/
theorem State.read_expandRow_outside {s : State} {row dest b : Nat} (h : b < dest ∨ dest + s.pixelRowBytes ≤ b) :
    (s.expandRow row dest).read b = s.mem.read b := by
  obtain ⟨ps, hl, he⟩ := s.expandRow_run row dest
  rw [he]
  exact Memory.read_writeRun_outside _ (by omega)

/-- Pixel `x` of the row `EXPAND` writes. -/
theorem readPixel_expand {p : Platform} {m : Memory} {src : Nat} {p0 p1 : Pixel} {dest words x : Nat}
    (h : x < words * Config.bpw) (h0 : p.pixelWidth.fits p0 = true) (h1 : p.pixelWidth.fits p1 = true) :
    (expand p m src p0 p1 dest words).readPixel p.pixelWidth (dest + x * p.pixelWidth.bytes) =
      plainPixel p.bitOrder m src p0 p1 x := by
  unfold expand
  rw [Memory.readPixel_writeRun m (by simpa using h)]
  · simp
  · rw [List.getElem_map]
    unfold plainPixel
    split <;> assumption

/-- What an unset bit shows is a PIXW-bit value where the background pixel is. -/
theorem fits_blendUnset {w : PixelWidth} {blend : Blend} {p0 bg : Pixel} (h : w.fits bg = true) :
    w.fits (blendUnset w blend p0 bg) = true := by
  cases blend with
  | background => exact h
  | other =>
    have h32 := w.two_pow_bits_le
    have hm := Nat.mod_lt (Config.overlayUnset w p0 bg).toNat (Nat.two_pow_pos w.bits)
    rw [blendUnset, PixelWidth.fits_iff, BitVec.toNat_ofNat, Nat.mod_eq_of_lt (by omega)]
    exact hm

/-- Pixel `x` of the row `EXPAND_WITH_OVERLAY` writes. -/
theorem readPixel_expandWithOverlay {p : Platform} {m : Memory} {src : Nat} {p0 p1 : Pixel} {dest words bg x : Nat}
    (h : x < words * Config.bpw) (h1 : p.pixelWidth.fits p1 = true) :
    (expandWithOverlay p m src p0 p1 dest words bg).readPixel p.pixelWidth (dest + x * p.pixelWidth.bytes) =
      overlayPixel p m src p0 p1 bg x := by
  unfold expandWithOverlay
  rw [Memory.readPixel_writeRun m (by simpa using h)]
  · simp
  · rw [List.getElem_map]
    unfold overlayPixel
    split
    · exact h1
    · exact fits_blendUnset (Memory.fits_readPixel _ _ _)

/-- The expander keeps memory in canonical form. -/
theorem State.wf_expandRow {s : State} {row dest : Nat} (h : s.mem.wf = true) (ha : s.RowAllowed row dest) :
    (s.expandRow row dest).wf = true := by
  rcases ha with h0 | ⟨_, _, hd, _⟩
  · have hz : s.wpl.toNat = 0 := by simp [h0]
    unfold State.expandRow
    split <;> simpa [expand, expandWithOverlay, hz, Memory.writeRun] using h
  · obtain ⟨ps, hl, he⟩ := s.expandRow_run row dest
    rw [he]
    exact Memory.wf_writeRun h (by omega)

/-! ### The copy of COPY_TO_BACK (43_backbuffer.md R142) -/

theorem State.planesValid_iff {s : State} : s.planesValid = true ↔
    s.frontBase.toNat + s.planeBytes ≤ Config.addressSpace ∧ s.backBase.toNat + s.planeBytes ≤ Config.addressSpace ∧
      Apart s.frontBase.toNat s.planeBytes s.backBase.toNat s.planeBytes := by
  unfold State.planesValid
  rw [Bool.and_eq_true, Bool.and_eq_true, Bool.not_eq_true', Bool.not_eq_true', Bool.not_eq_true',
    leavesSpace_eq_false, leavesSpace_eq_false, rangesOverlap_eq_false, and_assoc]

/-- What the planes allow does not depend on which is front. -/
theorem State.planesValid_of_allowed {s : State} (h : s.PlanesAllowed) : s.planesValid = true := by
  rw [State.planesValid_iff]
  obtain ⟨h0, h1, h2⟩ := h
  unfold Apart at h2
  cases ha : s.activeIndex <;> simp only [State.frontBase, State.backBase, State.planeBase, ha, Bool.not_false,
    Bool.not_true, if_true, Bool.false_eq_true, if_false] <;> unfold Apart <;> omega

/-- What the copy answers when it answers a state. -/
theorem State.copyFrontToBack_ok {s t : State} (h : s.copyFrontToBack = .ok t) :
    t = { s with mem := copyWords s.mem s.frontBase.toNat s.backBase.toNat s.planeWords } ∧
      (s.planeWords = 0 ∨ s.planesValid = true) := by
  unfold State.copyFrontToBack at h
  split at h
  · rename_i h0
    cases h
    refine ⟨?_, Or.inl h0⟩
    simp [copyWords, wordsFrom, h0, Memory.writeRun]
  · split at h
    · rename_i hv
      cases h
      exact ⟨rfl, Or.inr hv⟩
    · cases h

/-- With planes as the allocator makes them the copy answers a state. -/
theorem State.copyFrontToBack_of_allowed {s : State} (h : s.PlanesAllowed) :
    s.copyFrontToBack = .ok { s with mem := copyWords s.mem s.frontBase.toNat s.backBase.toNat s.planeWords } := by
  unfold State.copyFrontToBack
  rw [State.planesValid_of_allowed h]
  split
  · rename_i h0
    simp [copyWords, wordsFrom, h0, Memory.writeRun]
  · rfl

/-- Word `j` of the destination after the copy. -/
theorem readWord_copyWords {m : Memory} {src dst count j : Nat} (h : j < count) :
    (copyWords m src dst count).readWord (dst + j * Config.wordBytes) = m.readWord (src + j * Config.wordBytes) := by
  unfold copyWords
  rw [Memory.readWord_writeRun m (by simpa [wordsFrom] using h)]
  simp [wordsFrom]

/-- The copy writes nothing outside the destination. -/
theorem read_copyWords_outside {m : Memory} {src dst count b : Nat}
    (h : b < dst ∨ dst + count * Config.wordBytes ≤ b) : (copyWords m src dst count).read b = m.read b := by
  unfold copyWords
  refine Memory.read_writeRun_outside m ?_
  simpa [wordsFrom] using h

/-- The copy keeps memory in canonical form. -/
theorem wf_copyWords {m : Memory} {src dst count : Nat} (h : m.wf = true)
    (hd : dst + count * Config.wordBytes ≤ Config.addressSpace) : (copyWords m src dst count).wf = true := by
  unfold copyWords
  exact Memory.wf_writeRun h (by simpa [wordsFrom] using hd)

/-! ### Step -/

/-- A step with nothing to come changes nothing. -/
theorem stepEvent_nil {s : State} (h : s.pending = []) : stepEvent s = .next s := by
  simp [stepEvent, h]

/-- A step handles the first event to come. -/
theorem stepEvent_cons {s : State} {e : Event} {rest : List Event} (h : s.pending = e :: rest) :
    stepEvent s = handle e (s.advance rest) := by
  simp [stepEvent, h]

theorem takeCommand_free {s : State} {p : Port} {cmd : Command} (hr : s.resetAsserted = false)
    (hp : s.portStuck p = false) : takeCommand p cmd s = returnTo p cmd (execCommand cmd s) := by
  simp [takeCommand, hr, hp]

theorem execCommand_ok {s : State} {cmd : Command} {i : Instr} (h : decode s.platform.pixelWidth cmd = .ok i) :
    execCommand cmd s = exec i s := by
  simp [execCommand, h]

theorem execCommand_error {s : State} {cmd : Command} {e : Illegal} (h : decode s.platform.pixelWidth cmd = .error e) :
    execCommand cmd s = rejectIllegal s := by
  simp [execCommand, h]

end Sys2Proof.Machine
end

