-- ==== Sys2Proof/Laws/PerInstr.lean ====
section
/-! SUPPORT. The per-instruction family `EncodesItsRow`: an instruction's encoding has, under the mask of its row of
spec/opcode_table.json, that row's pattern. -/

namespace Sys2Proof.Laws.EncodesItsRow

/-- The encoding of `i` belongs to the row of `i`'s mnemonic. -/
def Statement (i : Instr) : Prop := ∃ r ∈ opcodeTable, r.mnemonic = i.mnemonic ∧ r.admits (encode i) = true

theorem init (width height topLine : Dim) : Statement (.init width height topLine) := by
  refine ⟨_, List.mem_of_getElem? (i := 0) rfl, rfl, ?_⟩
  simp only [Row.admits, encode, beq_iff_eq]
  rw [pack_and _ _ 0xFF 0xFF 0xFFFF _ _ _ 0 0xFFFF0000 0xFFFFFFFF (by decide), lowWord_and_high, and_zero_lit]
  decide

theorem initBg (width height topLine : Dim) (bgAddr : Addr) : Statement (.initBg width height topLine bgAddr) := by
  refine ⟨_, List.mem_of_getElem? (i := 1) rfl, rfl, ?_⟩
  simp only [Row.admits, encode, beq_iff_eq]
  rw [pack_and _ _ 0xFF 0xFF 0xFFFF _ _ _ 0 0xFFFF0000 0 (by decide), lowWord_and_high, and_zero_lit, and_zero_lit]
  decide

theorem destroy : Statement .destroy := ⟨_, List.mem_of_getElem? (i := 2) rfl, rfl, by decide⟩

theorem rasterize (cpp : Cpp) (line : Dim) (dest : Addr) : Statement (.rasterize cpp line dest) := by
  refine ⟨_, List.mem_of_getElem? (i := 3) rfl, rfl, ?_⟩
  simp only [Row.admits, encode, beq_iff_eq]
  rw [pack_and _ _ 0xFF 0xFF 0xFFFF _ _ _ 0 0xFFFF0000 0 (by decide), lowWord_and_high, and_zero_lit, and_zero_lit]
  decide

theorem pendFlip : Statement .pendFlip := ⟨_, List.mem_of_getElem? (i := 4) rfl, rfl, by decide⟩

theorem flipNow : Statement .flipNow := ⟨_, List.mem_of_getElem? (i := 5) rfl, rfl, by decide⟩

theorem getBackBuffer : Statement .getBackBuffer := ⟨_, List.mem_of_getElem? (i := 6) rfl, rfl, by decide⟩

theorem makeBackGraphics : Statement .makeBackGraphics := ⟨_, List.mem_of_getElem? (i := 7) rfl, rfl, by decide⟩

theorem copyToBack : Statement .copyToBack := ⟨_, List.mem_of_getElem? (i := 8) rfl, rfl, by decide⟩

theorem planeIsBitAddressable (sel : Selector) : Statement (.planeIsBitAddressable sel) := by
  refine ⟨_, List.mem_of_getElem? (i := 9) rfl, rfl, ?_⟩
  cases sel <;> decide

theorem setFgColor (color : Pixel) : Statement (.setFgColor color) := by
  refine ⟨_, List.mem_of_getElem? (i := 10) rfl, rfl, ?_⟩
  simp only [Row.admits, encode, beq_iff_eq]
  rw [pack_and _ _ 0xFF 0xFF 0xFFFF _ _ _ 0 0xFFFFFFFF 0xFFFFFFFF (by decide), and_zero_lit]
  decide

theorem setBgColor (color : Pixel) : Statement (.setBgColor color) := by
  refine ⟨_, List.mem_of_getElem? (i := 11) rfl, rfl, ?_⟩
  simp only [Row.admits, encode, beq_iff_eq]
  rw [pack_and _ _ 0xFF 0xFF 0xFFFF _ _ _ 0 0xFFFFFFFF 0xFFFFFFFF (by decide), and_zero_lit]
  decide

theorem setBackground (addr : Addr) : Statement (.setBackground addr) := by
  refine ⟨_, List.mem_of_getElem? (i := 12) rfl, rfl, ?_⟩
  simp only [Row.admits, encode, beq_iff_eq]
  rw [pack_and _ _ 0xFF 0xFF 0xFFFF _ _ _ 0xFFFFFFFF 0xFFFFFFFF 0 (by decide), and_zero_lit]
  decide

theorem clrBackground : Statement .clrBackground := ⟨_, List.mem_of_getElem? (i := 13) rfl, rfl, by decide⟩

theorem readReg (reg : BitVec 8) : Statement (.readReg reg) := by
  refine ⟨_, List.mem_of_getElem? (i := 14) rfl, rfl, ?_⟩
  simp only [Row.admits, encode, beq_iff_eq]
  rw [pack_and _ _ 0xFF 0x00 0xFFFF _ _ _ 0xFFFFFFFF 0xFFFFFFFF 0xFFFFFFFF (by decide), and_zero_lit]
  decide

end Sys2Proof.Laws.EncodesItsRow
end

