-- ==== Sys2Proof/Tests/Slice0.lean ====
section
/-! SUPPORT. Tests: the check of WellFormed, command words written out from 30_encoding.md and 95_test_vectors.md with the
instruction each stands for, one step on small states with the results the vectors give, and for every statement that has
hypotheses a state and operands that meet them. -/

namespace Sys2Proof.Tests

open Sys2Proof.Machine

/-! ### Small states -/

/-- The parameters of the vectors: `ARENA_BASE = 0x20000000`, defaults of 00_scope.md R6. -/
def bench (order : BitOrder) : Platform := Platform.worked .w32 order 0x20000000 0x20100000

/-- The state right after reset, with the parameters of the vectors and zeros in memory. -/
def blank (order : BitOrder) : State :=
  { State.resetOn (bench order) with mem := ⟨.uniform 0, []⟩ }

/-- An unconfigured block whose arena reaches to the end of the address space and is used up. -/
def fullArena : State :=
  { blank .lsbFirst with platform := Platform.worked .w32 .lsbFirst 0x20000000 0x100000000, arenaNext := 0x100000000 }

/-- V2 of 95_test_vectors.md: `INIT.BG 32, 2, 5, 0x20002000`, here without the background. -/
def ready (order : BitOrder) : State :=
  { blank order with
    mode := .ready, width := 32, height := 2, wpl := 1, topLine := 5, planeBase0 := 0x20000000
    planeBase1 := 0x20000008, palette1 := 0xFFFFFFFF, arenaNext := 0x20000010 }

/-- P4: plane 1 holds `0x0000FFFF` and `0x80000000`, is shown in `0xABCDEF`, and pixel 16 of background row 0 is
`0x1010`. -/
def drawn (order : BitOrder) : State :=
  { ready order with
    activeIndex := true, palette1 := 0xABCDEF
    mem := ⟨.uniform 0, [(0x20000008, 0xFF), (0x20000009, 0xFF), (0x2000000F, 0x80), (0x20002040, 0x10),
      (0x20002041, 0x10)]⟩ }

/-- P4 with its background. -/
def overlaid (order : BitOrder) : State := { drawn order with bgPresent := true, bgBase := 0x20002000 }

/-- `overlaid` with another pixel width: pixel 16 of background row 0 is `0x77` where PIXW is 8, `0x1010` where it
is 16. -/
def narrow (w : PixelWidth) : State :=
  { overlaid .lsbFirst with
    palette1 := 0xEE, platform := Platform.worked w .lsbFirst 0x20000000 0x20100000
    mem := ⟨.uniform 0, [(0x20000008, 0xFF), (0x20000009, 0xFF), (0x20002010, 0x77), (0x20002020, 0x10),
      (0x20002021, 0x10)]⟩ }

/-- V6: a constructed block of no words. -/
def wordless : State := { ready .lsbFirst with width := 0, wpl := 0, planeBase1 := 0x20000000, arenaNext := 0x20000000 }

/-- V7: the allocator has stopped, and port D waits for its INIT. -/
def starved : State :=
  { blank .lsbFirst with
    allocatorStopped := true
    portD := ⟨some 0x0100000001E002800000000000000000, none⟩ }

/-- A halted block: port D waits for its MAKE_BACK_GRAPHICS. -/
def halted : State :=
  { ready .lsbFirst with
    mode := .halted
    portD := ⟨some 0x31000000000000000000000000000000, none⟩ }

/-- Planes outside both windows (P5: `ARENA_BASE = 0x10000000`). -/
def remote : State :=
  { ready .lsbFirst with
    planeBase0 := 0x10000000, planeBase1 := 0x10000008, arenaNext := 0x10000010
    platform := Platform.worked .w32 .lsbFirst 0x10000000 0x20100000 }

/-- The next state, if there is one. -/
def nextOf : Result → Option State
  | .next t => some t
  | .fault _ => none
  | .refused _ => none

/-- The response, if the command completes. -/
def responseOf (r : Result) : Option Response := (nextOf r).bind State.response

/-- The word at `a` in the next state. -/
def wordAt (a : Nat) (r : Result) : Option Word := (nextOf r).map fun t => t.mem.readWord a

/-- The pixel at `a` in the next state. -/
def pixelAt (w : PixelWidth) (a : Nat) (r : Result) : Option Pixel := (nextOf r).map fun t => t.mem.readPixel w a

/-- The value of register `reg` in the next state. -/
def regAt (reg : BitVec 8) (r : Result) : Option (BitVec 32) := (nextOf r).bind fun t => t.regValue reg

/-- Why there is no next state. -/
def refusalOf : Result → Option Refusal
  | .next _ => none
  | .fault _ => none
  | .refused r => some r

theorem nextOf_exists {r : Result} (h : (nextOf r).isSome = true) : ∃ t, r = .next t := by
  cases r with
  | next t => exact ⟨t, rfl⟩
  | fault _ => cases h
  | refused _ => cases h

/-- Why a command is illegal. -/
def errorOf (c : Command) : Option Illegal :=
  match decode .w32 c with
  | .ok _ => none
  | .error e => some e

/-! ### Well-formedness (30_encoding.md R85) -/

theorem test_wf_reg_ten_refused : (Instr.readReg 10).wellFormed .w32 = false := by decide
theorem test_wf_reg_last_refused : (Instr.readReg 0xFF).wellFormed .w32 = false := by decide
theorem test_wf_reg_nine : (Instr.readReg 9).wellFormed .w32 = true := by decide

/-! ### Decoding: one word a row, from the vectors -/

theorem test_decode_init : decode .w32 0x0100000001E002800000000000000000 = .ok (.init 640 480 0) := rfl
theorem test_decode_init_top : decode .w32 0x0100000001E002800000003200000000 = .ok (.init 640 480 50) := rfl
theorem test_decode_init_bg : decode .w32 0x01010000000200200000000520002000 = .ok (.initBg 32 2 5 0x20002000) := rfl
theorem test_decode_destroy : decode .w32 0x02000000000000000000000000000000 = .ok .destroy := rfl
theorem test_decode_rasterize : decode .w32 0x10000000FFFFFFFF0000FFFF00000000 = .ok (.rasterize 0xFFFFFFFF 65535 0) := rfl
theorem test_decode_pend_flip : decode .w32 0x20000000000000000000000000000000 = .ok .pendFlip := rfl
theorem test_decode_flip_now : decode .w32 0x21000000000000000000000000000000 = .ok .flipNow := rfl
theorem test_decode_get_back : decode .w32 0x30000000000000000000000000000000 = .ok .getBackBuffer := rfl
theorem test_decode_make_back : decode .w32 0x31000000000000000000000000000000 = .ok .makeBackGraphics := rfl
theorem test_decode_copy_to_back : decode .w32 0x32000000000000000000000000000000 = .ok .copyToBack := rfl
theorem test_decode_query_p0 : decode .w32 0x40000000000000000000000000000000 = .ok (.planeIsBitAddressable .p0) := rfl
theorem test_decode_query_p1 : decode .w32 0x40010000000000000000000000000000 = .ok (.planeIsBitAddressable .p1) := rfl
theorem test_decode_query_front : decode .w32 0x40020000000000000000000000000000 = .ok (.planeIsBitAddressable .front) := rfl
theorem test_decode_query_back : decode .w32 0x40030000000000000000000000000000 = .ok (.planeIsBitAddressable .back) := rfl
theorem test_decode_fg : decode .w32 0x5000000000FFFFFF0000000000000000 = .ok (.setFgColor 0xFFFFFF) := rfl
theorem test_decode_bg : decode .w32 0x51000000000000800000000000000000 = .ok (.setBgColor 0x80) := rfl
theorem test_decode_set_background : decode .w32 0x52010000000000000000000020030000 = .ok (.setBackground 0x20030000) := rfl
theorem test_decode_clr_background : decode .w32 0x52000000000000000000000000000000 = .ok .clrBackground := rfl
theorem test_decode_read_reg : decode .w32 0x60090000000000000000000000000000 = .ok (.readReg 9) := rfl

theorem test_encode_init : encode (.init 640 480 50) = 0x0100000001E002800000003200000000 := by decide
theorem test_encode_rasterize : encode (.rasterize 4 10 0x20020000) = 0x10000000000000040000000A20020000 := by decide

/-- V30, V31: opcodes that are not assigned. -/
theorem test_illegal_opcodes :
    [0x00000000000000000000000000000000, 0x7F000000000000000000000000000000, 0x03000000000000000000000000000000,
      0x11000000000000000000000000000000, 0xFF000000000000000000000000000000].map errorOf =
      List.replicate 5 (some .unknownOpcode) := by decide

/-- V33, V36, V37, V38, V39: values of SUB that the table does not list. -/
theorem test_illegal_subs :
    [0x20010000000000000000000000000000, 0x40040000000000000000000000000000, 0x600A0000000000000000000000000000,
      0x0102000001E002800000000000000000, 0x52020000000000000000000000000000].map errorOf =
      List.replicate 5 (some .unlistedSub) := by decide

/-- V32: RSV0 is not 0. -/
theorem test_illegal_control : errorOf 0x20000001000000000000000000000000 = some .reservedControlBits := by decide

/-- V34, V35, V38, V39, V40: unassigned operand bits that are 1. -/
theorem test_illegal_operands :
    [0x20000000000000010000000000000000, 0x10000000000000040001000A20020000, 0x0100000001E002800000000020002000,
      0x0100000001E002800001000000000000, 0x52000000000000000000000020030000, 0x52010000000000010000000020030000,
      0x5000000000FFFFFF0000000100000000].map errorOf = List.replicate 7 (some .reservedOperandBits) := by decide

/-- R85: a color command with a bit of `W1[31:PIXW]` set, at the first color too wide and the last that fits. -/
theorem test_color_width :
    [decode .w8 0x50000000000001000000000000000000, decode .w8 0x51000000000001000000000000000000,
      decode .w16 0x50000000000100000000000000000000, decode .w8 0x50000000000000FF0000000000000000,
      decode .w16 0x510000000000FFFF0000000000000000].map Except.toOption =
      [none, none, none, some (.setFgColor 0xFF), some (.setBgColor 0xFFFF)] := by decide

/-- A status code stands in bits 135:128 of a response, R3 in the lowest (30_encoding.md R86, R87). -/
theorem test_response_bits :
    (Response.mk .errState 1 2 3 4).bits = 0x0200000001000000020000000300000004 := by decide

/-! ### One step each, with the results of the vectors -/

/-- V1. -/
theorem test_init_planes :
    ((nextOf (exec (.init 640 480 0) (blank .lsbFirst))).map fun t =>
      (t.wpl, t.planeBase0, t.planeBase1, t.palette1, t.statusWord, t.arenaNext)) =
      some (20, 0x20000000, 0x20009600, 0xFFFFFFFF, 1, 0x20012C00) := by decide

/-- V7: the second plane does not fit. -/
theorem test_init_no_room :
    ((nextOf (exec (.init 640 480 0)
        { blank .lsbFirst with platform := Platform.worked .w32 .lsbFirst 0x20000000 0x20010000 })).map fun t =>
      (t.mode, t.response, t.arenaNext, t.fatal)) = some (.unconfigured, none, 0x20000000, false) := by decide

/-- V2. -/
theorem test_init_bg :
    ((nextOf (exec (.initBg 32 2 5 0x20002000) (blank .lsbFirst))).map fun t =>
      (t.wpl, t.planeBase1, t.topLine, t.bgBase, t.statusWord, t.arenaNext)) =
      some (1, 0x20000008, 5, 0x20002000, 9, 0x20000010) := by decide

/-- V8. -/
theorem test_init_misaligned : refusalOf (exec (.init 100 10 0) (blank .lsbFirst)) = some .misalignedWidth := by decide

/-- V4: registers 0 to 9 read 0, ARENA_NEXT keeps its value. -/
theorem test_destroy :
    ((nextOf (exec .destroy (overlaid .lsbFirst))).map fun t =>
      ((List.range 10).map fun r => t.regValue (BitVec.ofNat 8 r), t.arenaNext)) =
      some (List.replicate 10 (some 0), 0x20000010) := by decide

/-- V5. -/
theorem test_destroy_unconfigured :
    responseOf (exec .destroy (blank .lsbFirst)) = some ⟨.errState, 0, 0, 0, 0⟩ := by decide

/-- P4, the row of step 7, at the pixels around the change. -/
theorem test_rasterize_overlay :
    [wordAt (0x20003000 + 15 * 4) (exec (.rasterize 1 5 0x20003000) (overlaid .lsbFirst)),
      wordAt (0x20003000 + 16 * 4) (exec (.rasterize 1 5 0x20003000) (overlaid .lsbFirst)),
      wordAt (0x20003000 + 15 * 4) (exec (.rasterize 1 5 0x20003000) (overlaid .msbFirst)),
      wordAt (0x20003000 + 16 * 4) (exec (.rasterize 1 5 0x20003000) (overlaid .msbFirst))] =
      [some 0xABCDEF, some 0x1010, some 0, some 0xABCDEF] := by decide +kernel

/-- P4, row 1 of the plane without a background: `0x80000000` shows pixel 31 under LSB_FIRST, pixel 0 under
MSB_FIRST. -/
theorem test_rasterize_plain :
    [wordAt 0x20003000 (exec (.rasterize 1 6 0x20003000) (drawn .lsbFirst)),
      wordAt (0x20003000 + 31 * 4) (exec (.rasterize 1 6 0x20003000) (drawn .lsbFirst)),
      wordAt 0x20003000 (exec (.rasterize 1 6 0x20003000) (drawn .msbFirst)),
      wordAt (0x20003000 + 31 * 4) (exec (.rasterize 1 6 0x20003000) (drawn .msbFirst))] =
      [some 0, some 0xABCDEF, some 0xABCDEF, some 0] := by decide +kernel

/-- P4, the row of step 7, with pixels of 8 and of 16 bits (20_memory.md R56, R57). -/
theorem test_rasterize_narrow :
    [pixelAt .w8 (0x20003000 + 15) (exec (.rasterize 1 5 0x20003000) (narrow .w8)),
      pixelAt .w8 (0x20003000 + 16) (exec (.rasterize 1 5 0x20003000) (narrow .w8)),
      pixelAt .w16 (0x20003000 + 15 * 2) (exec (.rasterize 1 5 0x20003000) (narrow .w16)),
      pixelAt .w16 (0x20003000 + 16 * 2) (exec (.rasterize 1 5 0x20003000) (narrow .w16))] =
      [some 0xEE, some 0x77, some 0xEE, some 0x1010] := by decide +kernel

/-- 93_implementation_defined.md U3: with `PIXW = 8` nothing is misaligned. -/
theorem test_rasterize_narrow_alignment :
    [PixelWidth.w8, .w16, .w32].map (fun w => refusalOf (exec (.rasterize 1 5 0x20003001) (narrow w))) =
      [none, some .misalignedDestination, some .misalignedDestination] := by decide

/-- V16: a misaligned row, a row that leaves the address space, a row over its own source. -/
theorem test_rasterize_refused :
    [(0x20003002 : Addr), 0xFFFFFFFC, 0x2000000C].map (fun dest => refusalOf (exec (.rasterize 4 6 dest) (drawn .lsbFirst))) =
      [some .misalignedDestination, some .outsideAddressSpace, some .overlappingRows] := by decide

/-- V17. -/
theorem test_pend_flip : regAt 0 (exec .pendFlip (ready .lsbFirst)) = some 5 := by decide

/-- V19. -/
theorem test_flip_now_keeps_pending :
    regAt 0 (exec .flipNow { ready .lsbFirst with flipPending := true }) = some 7 := by decide

/-- V22, for this geometry: the back plane is plane 1. -/
theorem test_get_back_buffer :
    responseOf (exec .getBackBuffer (ready .lsbFirst)) = some ⟨.ok, 0x20000008, 32, 2, 1⟩ := by decide

/-- V23b: base `0x20100000` is outside the half-open window. -/
theorem test_make_back_graphics_halts :
    ((nextOf (exec .makeBackGraphics { ready .lsbFirst with planeBase1 := 0x20100000 })).map fun t =>
      (t.mode, t.fatal, t.response, t.planeBase1)) = some (.halted, true, none, 0x20100000) := by decide

/-- V23b: base `0x200FFFFC` is inside. -/
theorem test_make_back_graphics_grants :
    responseOf (exec .makeBackGraphics { ready .lsbFirst with activeIndex := true, planeBase0 := 0x200FFFFC }) =
      some ⟨.ok, 0x200FFFFC, 32, 2, 1⟩ := by decide

/-- P3 step 14, for this geometry: both words of plane 1 arrive in plane 0. -/
theorem test_copy_to_back :
    [wordAt 0x20000000 (exec .copyToBack (drawn .lsbFirst)), wordAt 0x20000004 (exec .copyToBack (drawn .lsbFirst)),
      wordAt 0x20000008 (exec .copyToBack (drawn .lsbFirst))] = [some 0x0000FFFF, some 0x80000000, some 0x0000FFFF] := by
  decide +kernel

/-- V24. -/
theorem test_plane_query :
    [Selector.p0, .p1, .front, .back].map (fun sel =>
      (responseOf (exec (.planeIsBitAddressable sel)
        { ready .lsbFirst with planeBase0 := 0x200FFF00, planeBase1 := 0x20100F00, activeIndex := true })).map
          Response.r0) = [some 1, some 0, some 0, some 1] := by decide

/-- V25. -/
theorem test_window_edges :
    [0x1FFFFFFC, 0x20000000, 0x200FFFFC, 0x20100000, 0x3FFFFFFC, 0x40000000, 0x400FFFFC, 0x40100000, 0,
      0xFFFFFFFC].map (inWindow (bench .lsbFirst)) =
      [false, true, true, false, false, true, true, false, false, false] := by decide

/-- V26. -/
theorem test_set_fg : regAt 8 (exec (.setFgColor 0xFFFFFF) (ready .lsbFirst)) = some 0x00FFFFFF := by decide
theorem test_set_bg : regAt 7 (exec (.setBgColor 0x80) (ready .lsbFirst)) = some 0x80 := by decide

/-- R160: a color of more than PIXW bits is illegal, whatever the mode. -/
theorem test_set_fg_too_wide :
    [responseOf (exec (.setFgColor 0x100) (narrow .w8)),
      responseOf (exec (.setFgColor 0x100) { narrow .w8 with mode := .unconfigured })] =
      [some ⟨.errIllegal, 0, 0, 0, 0⟩, some ⟨.errIllegal, 0, 0, 0, 0⟩] := by decide

/-- V27: present, at address 0. -/
theorem test_set_background_zero : regAt 0 (exec (.setBackground 0) (ready .lsbFirst)) = some 9 := by decide
theorem test_clr_background : regAt 0 (exec .clrBackground (overlaid .lsbFirst)) = some 3 := by decide

/-- V29, for `overlaid`. -/
theorem test_read_reg :
    (List.range 10).map (fun r => (responseOf (exec (.readReg (BitVec.ofNat 8 r)) (overlaid .lsbFirst))).map Response.r0) =
      [some 0xB, some 32, some 2, some 1, some 5, some 0x20000000, some 0x20000008, some 0, some 0xABCDEF,
        some 0x20002000] := by decide

/-- V47. -/
theorem test_little_endian :
    Memory.readNat ⟨.uniform 0, [(64, 0xEF), (65, 0xCD), (66, 0xAB)]⟩ 64 4 = 0x00ABCDEF := by decide

/-- V41: an illegal command is illegal before its state is looked at. -/
theorem test_step_illegal :
    responseOf (step ((blank .lsbFirst).withFetchWord 128 0x20000001000000000000000000000000)) =
      some ⟨.errIllegal, 0, 0, 0, 0⟩ := by decide

/-- P1 step 7 through the step: the response reaches the port. -/
theorem test_step_pend_flip :
    ((nextOf (step ((ready .lsbFirst).withFetchWord 128 0x20000000000000000000000000000000))).map fun t =>
      (t.flipPending, t.portD.lastResponse, t.pending)) = some (true, some ⟨.ok, 0, 0, 0, 0⟩, []) := by decide

/-- P5 steps 6 and 7: a halted block never answers. -/
theorem test_step_halted :
    ((nextOf (step { halted with pending := [.command .T 0x60000000000000000000000000000000] })).map fun t =>
      (t.mode, t.portStuck .T, t.portT.lastResponse)) = some (.halted, true, none) := by decide

/-- After V7 the other context is still served: its READ_REG answers 0. -/
theorem test_step_starved :
    ((nextOf (step { starved with pending := [.command .T 0x60000000000000000000000000000000] })).map fun t =>
      (t.portT.waiting, t.portT.lastResponse, t.portStuck .D)) = some (none, some ⟨.ok, 0, 0, 0, 0⟩, true) := by decide

/-- P5, after its end: a reset leaves HALTED and keeps ARENA_NEXT. -/
theorem test_step_reset :
    ((nextOf (step { halted with pending := [.resetLine true] })).map fun t =>
      (t.mode, t.width, t.arenaNext, t.portStuck .D)) = some (.unconfigured, 0, 0x20000010, false) := by decide

/-! ### For every statement with hypotheses, a state and operands that meet them -/

theorem blank_inv (order : BitOrder) : (blank order).Inv where
  platform := by cases order <;> decide
  memory := rfl
  arena := by cases order <;> decide
  unconfigured _ := ⟨rfl, rfl, rfl, rfl, rfl, rfl, rfl, rfl, rfl, rfl, rfl, rfl⟩
  constructed h := absurd rfl h
  palette := by cases order <;> decide
  background _ := rfl
  resetHeld h := nomatch h
  waiting := by cases order <;> decide
  halted h := nomatch h

/-- `ready` and its neighbours: any width, planes in either arena, with a port that waits where the block is halted. -/
theorem constructed_inv {s : State} (hm : s.mode ≠ .unconfigured) (hp : s.platform.Valid) (hw : s.mem.wf = true)
    (ha : s.arenaNext % 4 = 0 ∧ s.platform.arenaBase ≤ s.arenaNext ∧ s.arenaNext ≤ s.platform.arenaLimit)
    (hc : s.Constructed) (hf : s.PaletteFits) (hb : s.bgPresent = false → s.bgBase = 0) (hr : s.resetAsserted = false)
    (hh : s.mode = .halted ↔ s.portStuck .T = true ∨ s.portStuck .D = true) : s.Inv where
  platform := hp
  memory := hw
  arena := ha
  unconfigured h := absurd h hm
  constructed _ := hc
  palette := hf
  background := hb
  resetHeld h := by simp [hr] at h
  waiting h := .inl (hh.mpr h)
  halted h := hh.mp h

theorem ready_inv (order : BitOrder) : (ready order).Inv := by
  refine constructed_inv (fun h => nomatch h) ?_ rfl ?_ ⟨?_, ?_, ?_, ?_, ?_, ?_⟩ ?_ (fun _ => rfl) rfl ?_ <;>
    cases order <;> decide

theorem halted_inv : halted.Inv := by
  refine constructed_inv (fun h => nomatch h) ?_ rfl ?_ ⟨?_, ?_, ?_, ?_, ?_, ?_⟩ ?_ (fun _ => rfl) rfl ?_ <;> decide

theorem remote_inv : remote.Inv := by
  refine constructed_inv (fun h => nomatch h) ?_ rfl ?_ ⟨?_, ?_, ?_, ?_, ?_, ?_⟩ ?_ (fun _ => rfl) rfl ?_ <;> decide

theorem narrow_inv (w : PixelWidth) : (narrow w).Inv := by
  refine constructed_inv (fun h => nomatch h) ?_ ?_ ?_ ⟨?_, ?_, ?_, ?_, ?_, ?_⟩ ?_ (fun h => nomatch h) rfl ?_ <;>
    cases w <;> decide

/-- The steps to come do not matter to the invariant. -/
theorem inv_advance {s : State} (h : s.Inv) (rest : List Event) : { s with pending := rest }.Inv :=
  { h with
    unconfigured := fun hm => { h.unconfigured hm with }
    constructed := fun hm => { h.constructed hm with } }

theorem witness_DecodeOfEncode :
    (Instr.readReg 9).WellFormed .w8 ∧ (Instr.setFgColor 0xFF).WellFormed .w8 ∧ (Instr.setBgColor 0xFFFF).WellFormed .w16 ∧
      (Instr.setFgColor 0xFFFFFFFF).WellFormed .w32 ∧ (Instr.rasterize 0xFFFFFFFF 65535 0xFFFFFFFF).WellFormed .w8 := by
  decide

theorem witness_EncodeOfDecode : ∃ (w : PixelWidth) (c : Command) (i : Instr), decode w c = .ok i :=
  ⟨.w8, 0x60090000000000000000000000000000, _, rfl⟩

theorem witness_DecodeMatchesOpcodeTable :
    (∃ i, decode .w32 0x60090000000000000000000000000000 = .ok i ∧ i.mnemonic = "READ_REG") ∧
      ∃ r ∈ opcodeTable, r.mnemonic = "READ_REG" ∧ r.admits 0x600A0000000000000000000000000000 = true ∧
        Command.sub 0x600A0000000000000000000000000000 = 10 :=
  ⟨⟨.readReg 9, rfl, rfl⟩, by decide⟩

theorem witness_OpcodeTableRowsAreDisjoint :
    ∃ (c : Command) (r₁ r₂ : Row), r₁ ∈ opcodeTable ∧ r₂ ∈ opcodeTable ∧ r₁.admits c = true ∧ r₂.admits c = true :=
  ⟨0x02000000000000000000000000000000,
    ⟨"DESTROY", 0x02000000000000000000000000000000, 0xFFFFFFFFFFFFFFFFFFFFFFFFFFFFFFFF⟩,
    ⟨"DESTROY", 0x02000000000000000000000000000000, 0xFFFFFFFFFFFFFFFFFFFFFFFFFFFFFFFF⟩, by decide⟩

theorem witness_StepRunsTheDecodedCommand :
    ∃ (s : State) (p : Port) (cmd : Command) (rest : List Event) (i : Instr),
      s.pending = .command p cmd :: rest ∧ s.resetAsserted = false ∧ s.portStuck p = false ∧
        decode s.platform.pixelWidth cmd = .ok i :=
  ⟨{ ready .lsbFirst with pending := [.command .T 0x10000000000000010000000520003000] }, .T,
    0x10000000000000010000000520003000, [], .rasterize 1 5 0x20003000, rfl, rfl, rfl, rfl⟩

theorem witness_PortDoesNotMatter :
    ∃ (s t : State) (p q : Port) (cmd : Command) (rest : List Event), p ≠ q ∧ s.portStuck .T = false ∧
      s.portStuck .D = false ∧ step { s with pending := .command p cmd :: rest } = .next t :=
  ⟨ready .lsbFirst, _, .T, .D, 0x21000000000000000000000000000000, [], by decide, rfl, rfl, rfl⟩

theorem witness_ContextsDoNotBlockEachOther :
    ∃ (s : State) (p : Port) (cmd : Command) (rest : List Event), s.pending = .command p cmd :: rest ∧
      s.mode = .unconfigured ∧ s.resetAsserted = false ∧ s.portStuck p = false ∧ s.portStuck p.other = true ∧
      (∀ w h l, decode s.platform.pixelWidth cmd ≠ .ok (.init w h l)) ∧
      ∀ w h l a, decode s.platform.pixelWidth cmd ≠ .ok (.initBg w h l a) :=
  ⟨{ starved with pending := [.command .T 0x60000000000000000000000000000000] }, .T, _, [], rfl, rfl, rfl, rfl, rfl,
    fun _ _ _ h => (nomatch h), fun _ _ _ _ h => (nomatch h)⟩

theorem witness_IllegalCommandIsRejected :
    ∃ (s : State) (p : Port) (cmd : Command) (rest : List Event) (e : Illegal),
      s.pending = .command p cmd :: rest ∧ s.resetAsserted = false ∧ s.portStuck p = false ∧
        s.mode ≠ .halted ∧ decode s.platform.pixelWidth cmd = .error e :=
  ⟨{ blank .lsbFirst with pending := [.command .T 0x20000001000000000000000000000000] }, .T,
    0x20000001000000000000000000000000, [], .reservedControlBits, rfl, rfl, rfl, by decide, rfl⟩

theorem witness_WrongModeIsRejected :
    ((blank .lsbFirst).mode = .unconfigured ∧ Instr.destroy.WellFormed (blank .lsbFirst).platform.pixelWidth ∧
      (∀ w h t, Instr.destroy ≠ .init w h t) ∧
      (∀ w h t a, Instr.destroy ≠ .initBg w h t a) ∧ ∀ r, Instr.destroy ≠ .readReg r) ∧
      (ready .lsbFirst).mode = .ready :=
  ⟨⟨rfl, rfl, fun _ _ _ h => (nomatch h), fun _ _ _ _ h => (nomatch h), fun _ h => (nomatch h)⟩, rfl⟩

theorem witness_HaltedInstructionsDoNothing : halted.mode = .halted := rfl

theorem witness_HaltedBlockNeverAnswers :
    ∃ (s : State) (p : Port) (cmd : Command) (rest : List Event),
      s.pending = .command p cmd :: rest ∧ s.resetAsserted = false ∧ s.mode = .halted :=
  ⟨{ halted with pending := [.command .T 0x60000000000000000000000000000000] }, .T, _, [], rfl, rfl, rfl⟩

theorem witness_StuckAgentActsNoMore :
    halted.portStuck .D = true ∧ { halted with portT := ⟨some 0, none⟩ }.portStuck .T = true := ⟨rfl, rfl⟩

theorem witness_OutsideAgentsAccessMemory :
    (ready .lsbFirst).agentStuck .producer = false ∧ halted.agentStuck .other = false ∧ 0xFFFFFFFF + 1 ≤ 2 ^ 32 ∧
      2 ^ 32 < 0xFFFFFFFF + 2 := by decide

theorem witness_ResetGivesTheResetValues :
    ∃ (s : State) (rest : List Event), s.mode = .halted ∧ s.pending = .resetLine true :: rest :=
  ⟨{ halted with pending := [.resetLine true] }, [], rfl, rfl⟩

theorem witness_CommandUnderResetIsDropped :
    ∃ (s : State) (p : Port) (cmd : Command) (rest : List Event), s.Inv ∧
      s.pending = .command p cmd :: rest ∧ s.resetAsserted = true := by
  refine ⟨{ blank .lsbFirst with resetAsserted := true, pending := [.command .T 0] }, .T, 0, [], ?_, rfl, rfl⟩
  have h := inv_advance (blank_inv .lsbFirst) [.command .T 0]
  exact
    { h with
      unconfigured := fun hm => { h.unconfigured hm with }
      constructed := fun hm => absurd rfl hm
      resetHeld := fun _ => rfl }

theorem witness_CommandUnderResetIsDropped_waiting :
    ∃ (s : State) (rest : List Event), s.portStuck .D = true ∧ s.pending = .resetLine true :: rest :=
  ⟨{ halted with pending := [.resetLine true] }, [], rfl, rfl⟩

theorem witness_OnlyResetLeavesHalted :
    (∃ s t : State, s.mode = .halted ∧ step s = .next t ∧ t.mode = .halted) ∧
      ∃ s t : State, s.mode = .halted ∧ step s = .next t ∧ t.mode = .unconfigured :=
  ⟨⟨{ halted with pending := [.command .T 0x60000000000000000000000000000000] }, _, rfl, rfl, rfl⟩,
    ⟨{ halted with pending := [.resetLine true] }, _, rfl, rfl, rfl⟩⟩

theorem witness_ConstructionWritesEveryVariable :
    (blank .lsbFirst).mode = .unconfigured ∧ (640 : Dim).toNat % 32 = 0 ∧
      9600 = (640 : Dim).toNat / 32 * (480 : Dim).toNat ∧ (blank .lsbFirst).ArenaHasRoom 9600 ∧
      (blank .lsbFirst).ArenaHasRoom 131072 ∧ (blank .lsbFirst).ArenaHasRoom 0 := by decide

/-- Too little room; a stopped allocator; and the boundary of log entry 11, planes of 0 words with an arena used up to the
end of the address space. -/
theorem witness_ConstructionWithoutRoomNeverCompletes :
    (blank .lsbFirst).mode = .unconfigured ∧ (32 : Dim).toNat % 32 = 0 ∧ (65504 : Dim).toNat % 32 = 0 ∧
      ¬ (blank .lsbFirst).ArenaHasRoom ((65504 : Dim).toNat / 32 * (480 : Dim).toNat) ∧
      ¬ { blank .lsbFirst with allocatorStopped := true }.ArenaHasRoom ((32 : Dim).toNat / 32 * (1 : Dim).toNat) ∧
      fullArena.mode = .unconfigured ∧ fullArena.platform.Valid ∧ (0 : Dim).toNat % 32 = 0 ∧
      fullArena.arenaNext + 2 * (0 * Config.wordBytes) ≤ fullArena.platform.arenaLimit ∧
      ¬ fullArena.ArenaHasRoom ((0 : Dim).toNat / 32 * (480 : Dim).toNat) := by
  decide

theorem witness_MisalignedWidthIsRefused :
    (blank .lsbFirst).mode = .unconfigured ∧ (31 : Dim).toNat % 32 ≠ 0 ∧ (65535 : Dim).toNat % 32 ≠ 0 := by decide

theorem witness_ConstructedPlanesAreFreshAndApart :
    ∃ (s t : State) (i : Instr), s.Inv ∧ s.mode = .unconfigured ∧ exec i s = .next t ∧ t.mode = .ready :=
  ⟨blank .lsbFirst, _, .init 640 480 0, blank_inv _, rfl, rfl, rfl⟩

theorem witness_DestroyClearsTheBlock :
    (∃ c : Command, c.opc = 0x02 ∧ c ≠ 0x02000000000000000000000000000000) ∧ (overlaid .lsbFirst).mode = .ready ∧
      (blank .lsbFirst).mode = .unconfigured ∧ halted.mode = .halted :=
  ⟨⟨0x02010000000000000000000000000000, by decide, by decide⟩, rfl, rfl, rfl⟩

theorem witness_RasterizeOutOfRangeLine :
    (ready .lsbFirst).mode = .ready ∧ (4 : Dim).toNat < (ready .lsbFirst).topLine.toNat ∧
      (ready .lsbFirst).topLine.toNat + (ready .lsbFirst).height.toNat ≤ (7 : Dim).toNat ∧
      5 = { ready .lsbFirst with height := 0, flipPending := true }.topLine ∧
      { ready .lsbFirst with height := 0 }.topLine.toNat + (0 : Dim).toNat ≤ (5 : Dim).toNat := by decide

/-- The state that draws local row `row`: a pending flip is consumed at row 0. -/
def atRow (s : State) (row : Nat) : State :=
  { s with
    flipPending := if row = 0 then false else s.flipPending
    activeIndex := if row = 0 ∧ s.flipPending = true then !s.activeIndex else s.activeIndex }

/-- Row 0 with a flip to consume, and row 1 into the highest row of the address space. -/
theorem witness_RasterizeDrawsThePlainRow :
    (∃ (s f : State) (line : Dim) (dest : Addr), s.mode = .ready ∧ line.toNat = s.topLine.toNat + 0 ∧
      0 < s.height.toNat ∧ s.flipPending = true ∧ f = atRow s 0 ∧ s.bgPresent = false ∧
      s.PaletteFits ∧ f.RowAllowed 0 dest.toNat) ∧
    ∃ (s f : State) (line : Dim) (dest : Addr), s.mode = .ready ∧ line.toNat = s.topLine.toNat + 1 ∧
      1 < s.height.toNat ∧ f = atRow s 1 ∧ s.bgPresent = false ∧ s.PaletteFits ∧ f.RowAllowed 1 dest.toNat :=
  ⟨⟨{ drawn .lsbFirst with flipPending := true }, _, 5, 0x20003000, rfl, rfl, by decide, rfl, rfl, rfl, by decide,
    by decide⟩,
    ⟨drawn .lsbFirst, _, 6, 0xFFFFFF80, rfl, rfl, by decide, rfl, rfl, by decide, by decide⟩⟩

/-- Row 0 with a flip to consume, 8-bit pixels right behind the background row it reads, and row 1 right behind the image. -/
theorem witness_RasterizeDrawsTheOverlayRow :
    (∃ (s f : State) (line : Dim) (dest : Addr), s.mode = .ready ∧ line.toNat = s.topLine.toNat + 0 ∧
      0 < s.height.toNat ∧ s.flipPending = true ∧ f = atRow s 0 ∧ s.bgPresent = true ∧
      s.PaletteFits ∧ f.RowAllowed 0 dest.toNat) ∧
    ∃ (s f : State) (line : Dim) (dest : Addr), s.mode = .ready ∧ line.toNat = s.topLine.toNat + 1 ∧
      1 < s.height.toNat ∧ f = atRow s 1 ∧ s.bgPresent = true ∧ s.PaletteFits ∧ f.RowAllowed 1 dest.toNat :=
  ⟨⟨{ narrow .w8 with flipPending := true }, _, 5, 0x20002020, rfl, rfl, by decide, rfl, rfl, rfl, by decide,
    by decide⟩,
    ⟨overlaid .msbFirst, _, 6, 0x20002100, rfl, rfl, by decide, rfl, rfl, by decide, by decide⟩⟩

theorem witness_RasterizeRunsExactlyWhenAllowed :
    (6 : Dim).toNat = (overlaid .lsbFirst).topLine.toNat + 1 ∧ 1 < (overlaid .lsbFirst).height.toNat ∧
      (overlaid .lsbFirst).RowAllowed 1 (0x20003000 : Addr).toNat ∧
      ¬ (overlaid .lsbFirst).RowAllowed 1 (0x20003001 : Addr).toNat ∧
      ¬ (overlaid .lsbFirst).RowAllowed 1 (0xFFFFFF84 : Addr).toNat ∧
      ¬ (overlaid .lsbFirst).RowAllowed 1 (0x2000000C : Addr).toNat ∧
      ¬ (overlaid .lsbFirst).RowAllowed 1 (0x200020FC : Addr).toNat ∧
      (narrow .w8).RowAllowed 1 (0xFFFFFFE0 : Addr).toNat ∧ ¬ (narrow .w8).RowAllowed 1 (0xFFFFFFE1 : Addr).toNat ∧
      ¬ (narrow .w16).RowAllowed 1 (0x20003001 : Addr).toNat :=
  ⟨rfl, by decide, by decide, by decide, by decide, by decide, by decide, by decide, by decide, by decide⟩

theorem witness_RasterizeReadsOnlyItsRows :
    ∃ t u : State, exec (.rasterize 1 6 0x20003000) (drawn .lsbFirst) = .next t ∧
      exec (.rasterize 1 6 0x20003000) { drawn .lsbFirst with mem := (drawn .lsbFirst).mem.write 0 7 } = .next u ∧
      (∀ b, 0x2000000C ≤ b → b < 0x20000010 →
        ((drawn .lsbFirst).mem.write 0 7).read b = (drawn .lsbFirst).mem.read b) ∧
      (drawn .lsbFirst).bgPresent = false := by
  obtain ⟨t, ht⟩ := nextOf_exists (r := exec (.rasterize 1 6 0x20003000) (drawn .lsbFirst)) (by decide)
  obtain ⟨u, hu⟩ := nextOf_exists
    (r := exec (.rasterize 1 6 0x20003000) { drawn .lsbFirst with mem := (drawn .lsbFirst).mem.write 0 7 }) (by decide)
  exact ⟨t, u, ht, hu, fun b h _ => Memory.read_write_other _ _ (by omega), rfl⟩

theorem witness_PendFlipSetsThePendingFlag :
    (∃ c : Command, c.opc = 0x20 ∧ c ≠ 0x20000000000000000000000000000000) ∧ (ready .lsbFirst).mode = .ready ∧
      (blank .lsbFirst).mode = .unconfigured ∧ halted.mode = .halted :=
  ⟨⟨0x20000000000000010000000000000000, by decide, by decide⟩, rfl, rfl, rfl⟩

theorem witness_FlipNowTogglesTheActivePlane :
    (∃ c : Command, c.opc = 0x21 ∧ c ≠ 0x21000000000000000000000000000000) ∧ (ready .lsbFirst).mode = .ready ∧
      (blank .lsbFirst).mode = .unconfigured ∧ halted.mode = .halted :=
  ⟨⟨0x21000000000000000000000000000001, by decide, by decide⟩, rfl, rfl, rfl⟩

theorem witness_FlipFsmTransitions :
    (∃ t, exec (.rasterize 1 5 0x20003000) { ready .lsbFirst with flipPending := true } = .next t) ∧
      (∃ t, exec (.init 640 480 0) (blank .lsbFirst) = .next t ∧ t.mode = .ready) ∧
      ∃ (s t : State) (rest : List Event), s.pending = .resetLine true :: rest ∧ step s = .next t :=
  ⟨nextOf_exists (by decide), ⟨_, rfl, rfl⟩, { halted with pending := [.resetLine true] }, _, [], rfl, rfl⟩

/-- Two requests and an in-range line of the frame being drawn, then the consumption (P3). -/
def coalescing : State :=
  { ready .lsbFirst with
    pending := [.command .D 0x20000000000000000000000000000000, .command .T 0x10000000000000010000000720003000,
      .command .D 0x20000000000000000000000000000000, .command .T 0x10000000000000010000000520003000] }

theorem witness_FlipRequestsCoalesce :
    ∃ (k : Nat) (s t u : State) (e : Event) (rest : List Event), s.Inv ∧ s.mode = .ready ∧
      (∀ e ∈ s.pending.take k, s.betweenConsumptions e = true) ∧ (s.pending.take k).any s.requestsFlip = true ∧
      Host.Core.run Sys2Proof.core k s = .next t ∧ t.mode = .ready ∧ t.pending = e :: rest ∧
      s.rasterizesLine s.topLine e = true ∧ step t = .next u := by
  obtain ⟨u, hu⟩ := nextOf_exists (r := step { coalescing with
      flipPending := true, response := some ⟨.ok, 0, 0, 0, 0⟩, portT := ⟨none, some ⟨.ok, 0, 0, 1, 0⟩⟩
      portD := ⟨none, some ⟨.ok, 0, 0, 0, 0⟩⟩, pending := coalescing.pending.drop 3 }) (by decide +kernel)
  exact ⟨3, coalescing, _, u, _, _, inv_advance (ready_inv _) _, rfl, by decide, by decide, rfl, rfl, rfl, by decide, hu⟩

/-- The same consumption with no request before it. -/
theorem witness_FlipRequestsCoalesce_none :
    ∃ (s u : State) (e : Event) (rest : List Event), s.Inv ∧ s.mode = .ready ∧
      Host.Core.run Sys2Proof.core 0 s = .next s ∧ s.pending = e :: rest ∧ s.flipPending = false ∧
      s.rasterizesLine s.topLine e = true ∧ step s = .next u := by
  obtain ⟨u, hu⟩ := nextOf_exists (r := step { coalescing with pending := coalescing.pending.drop 3 }) (by decide)
  exact ⟨_, u, _, _, inv_advance (ready_inv _) _, rfl, rfl, rfl, rfl, by decide, hu⟩

/-- A row of the frame, a write to the back plane and to the byte right after the front plane, a request to flip. -/
def framed : State :=
  { ready .lsbFirst with
    pending := [.command .T 0x10000000000000010000000620003000, .write .producer 0x20000008 4 0xFFFFFFFF,
      .command .D 0x20000000000000000000000000000000, .command .D 0x32000000000000000000000000000000] }

theorem witness_FrameIsReadFromOneUnchangedPlane :
    ∃ (k : Nat) (s t : State), s.Inv ∧ s.mode ≠ .unconfigured ∧ (∀ e ∈ s.pending.take k, s.keepsFrame e = true) ∧
      Host.Core.run Sys2Proof.core k s = .next t := by
  obtain ⟨t, ht⟩ := nextOf_exists (r := Host.Core.run Sys2Proof.core 4 framed) (by decide +kernel)
  exact ⟨4, framed, t, inv_advance (ready_inv _) _, by decide, by decide, ht⟩

theorem witness_GetBackBufferDescribesTheBackPlane :
    (∃ c : Command, c.opc = 0x30 ∧ c ≠ 0x30000000000000000000000000000000) ∧ (ready .lsbFirst).mode = .ready ∧
      (blank .lsbFirst).mode = .unconfigured ∧ halted.mode = .halted :=
  ⟨⟨0x30000000800000000000000000000000, by decide, by decide⟩, rfl, rfl, rfl⟩

/-- A base at each end of each window. -/
theorem witness_MakeBackGraphicsGrantsAnAddressablePlane :
    ∀ base ∈ [(0x20000000 : Addr), 0x200FFFFF, 0x40000000, 0x400FFFFF],
      { ready .lsbFirst with planeBase1 := base }.mode = .ready ∧
        { ready .lsbFirst with planeBase1 := base }.activeIndex = false ∧
        ((bench .lsbFirst).lowWindow.lo ≤ base.toNat ∧ base.toNat < (bench .lsbFirst).lowWindow.hi ∨
          (bench .lsbFirst).highWindow.lo ≤ base.toNat ∧ base.toNat < (bench .lsbFirst).highWindow.hi) := by
  simp only [List.forall_mem_cons]
  exact ⟨by decide, by decide, by decide, by decide, fun _ h => (nomatch h)⟩

/-- A base just outside each end of each window. -/
theorem witness_AddressabilityViolationHalts :
    ∀ base ∈ [(0x1FFFFFFF : Addr), 0x20100000, 0x3FFFFFFF, 0x40100000],
      { ready .lsbFirst with planeBase1 := base }.mode = .ready ∧
        { ready .lsbFirst with planeBase1 := base }.activeIndex = false ∧
        (base.toNat < (bench .lsbFirst).lowWindow.lo ∨ (bench .lsbFirst).lowWindow.hi ≤ base.toNat) ∧
        (base.toNat < (bench .lsbFirst).highWindow.lo ∨ (bench .lsbFirst).highWindow.hi ≤ base.toNat) := by
  simp only [List.forall_mem_cons]
  exact ⟨by decide, by decide, by decide, by decide, fun _ h => (nomatch h)⟩

theorem witness_OnlyAnAddressabilityViolationHalts :
    ∃ s t : State, s.mode ≠ .halted ∧ step s = .next t ∧ t.mode = .halted :=
  ⟨remote.withFetchWord 128 0x31000000000000000000000000000000, _, by decide, rfl, rfl⟩

theorem witness_CopyToBackSeedsTheBackPlane :
    (drawn .lsbFirst).mode = .ready ∧ (drawn .lsbFirst).PlanesAllowed ∧ wordless.mode = .ready ∧
      wordless.PlanesAllowed ∧
      { drawn .lsbFirst with planeBase0 := 0xFFFFFFF0, planeBase1 := 0xFFFFFFF8 }.PlanesAllowed := by decide

theorem witness_PlaneQueryTestsTheBaseAddress : (ready .lsbFirst).mode = .ready := rfl

theorem witness_PlaneQueryIsIdempotent :
    ∃ (s t : State) (i : Instr), s.mode = .ready ∧ i ≠ .destroy ∧ exec i s = .next t ∧ t.mode = .ready ∧
      t.activeIndex = s.activeIndex :=
  ⟨ready .lsbFirst, _, .pendFlip, rfl, by decide, rfl, rfl, rfl⟩

/-- Each clause at its boundary; the row drawn next is row 0 of `narrow .w8`, whose first pixel is set. -/
theorem witness_SetFgColorWritesPaletteEntryOne :
    ((∃ (w : PixelWidth) (c : Command), c.opc = 0x50 ∧ ∀ color, decode w c ≠ .ok (.setFgColor color)) ∧
      (narrow .w8).mode = .ready ∧ (0xFF : Pixel).toNat < 2 ^ (narrow .w8).platform.pixelWidth.bits ∧
      2 ^ (narrow .w8).platform.pixelWidth.bits ≤ (0x100 : Pixel).toNat ∧
      (0xFFFF : Pixel).toNat < 2 ^ (narrow .w16).platform.pixelWidth.bits ∧
      2 ^ (narrow .w16).platform.pixelWidth.bits ≤ (0x10000 : Pixel).toNat ∧
      (0xFFFFFFFF : Pixel).toNat < 2 ^ (ready .lsbFirst).platform.pixelWidth.bits ∧
      (blank .lsbFirst).mode = .unconfigured ∧ halted.mode = .halted) ∧
    ∃ v t, (narrow .w8).PaletteFits ∧ exec (.setFgColor 0xFF) (narrow .w8) = .next v ∧
      exec (.rasterize 1 5 0x20003000) v = .next t ∧ (5 : Dim).toNat = (narrow .w8).topLine.toNat + 0 ∧
      0 < (narrow .w8).height.toNat ∧ 0 < (narrow .w8).wpl.toNat * 32 ∧
      packedPixel .lsbFirst (narrow .w8).mem (0x20000008 + 0 * (narrow .w8).wpl.toNat * 4) 0 = true := by
  obtain ⟨t, ht⟩ := nextOf_exists (r := exec (.rasterize 1 5 0x20003000)
    { narrow .w8 with palette1 := 0xFF, response := some ⟨.ok, 0, 0, 0, 0⟩ }) (by decide)
  exact ⟨⟨⟨.w8, 0x50000000000001000000000000000000, by decide, fun _ h => nomatch h⟩, rfl, by decide, by decide,
    by decide, by decide, by decide, rfl, rfl⟩, _, t, by decide, rfl, ht, rfl, by decide, by decide, by decide⟩

/-- Each clause at its boundary; the row drawn next is row 0 of `narrow .w8`, whose last pixel is unset, with and without
its background. -/
theorem witness_SetBgColorWritesPaletteEntryZero :
    ((∃ (w : PixelWidth) (c : Command), c.opc = 0x51 ∧ ∀ color, decode w c ≠ .ok (.setBgColor color)) ∧
      (narrow .w8).mode = .ready ∧ (0xFF : Pixel).toNat < 2 ^ (narrow .w8).platform.pixelWidth.bits ∧
      2 ^ (narrow .w8).platform.pixelWidth.bits ≤ (0x100 : Pixel).toNat ∧
      (blank .lsbFirst).mode = .unconfigured ∧ halted.mode = .halted) ∧
    (∃ v t, (narrow .w8).PaletteFits ∧ exec (.setBgColor 0xFF) (narrow .w8) = .next v ∧
      exec (.rasterize 1 5 0x20003000) v = .next t ∧ (narrow .w8).bgPresent = true ∧
      (narrow .w8).platform.blend = .background) ∧
    (∃ s v t, s = { narrow .w8 with bgPresent := false, bgBase := 0 } ∧ exec (.setBgColor 0xFF) s = .next v ∧
      exec (.rasterize 1 5 0x20003000) v = .next t) ∧
    (5 : Dim).toNat = (narrow .w8).topLine.toNat + 0 ∧ 0 < (narrow .w8).height.toNat ∧
      31 < (narrow .w8).wpl.toNat * 32 ∧
      packedPixel .lsbFirst (narrow .w8).mem (0x20000008 + 0 * (narrow .w8).wpl.toNat * 4) 31 = false := by
  obtain ⟨t, ht⟩ := nextOf_exists (r := exec (.rasterize 1 5 0x20003000)
    { narrow .w8 with palette0 := 0xFF, response := some ⟨.ok, 0, 0, 0, 0⟩ }) (by decide)
  obtain ⟨u, hu⟩ := nextOf_exists (r := exec (.rasterize 1 5 0x20003000)
    { narrow .w8 with bgPresent := false, bgBase := 0, palette0 := 0xFF, response := some ⟨.ok, 0, 0, 0, 0⟩ }) (by decide)
  exact ⟨⟨⟨.w16, 0x51000000000100000000000000000000, by decide, fun _ h => nomatch h⟩, rfl, by decide, by decide, rfl,
    rfl⟩, ⟨_, t, by decide, rfl, ht, rfl, rfl⟩, ⟨_, _, u, rfl, rfl, hu⟩, rfl, by decide, by decide, by decide⟩

theorem witness_BackgroundCommandsWriteTheReference : (overlaid .lsbFirst).mode = .ready := rfl

theorem witness_ColorChangeShowsFromTheNextRow :
    ∃ (s v t u : State), s.mode = .ready ∧ s.bgPresent = false ∧
      (0xEE : Pixel).toNat < 2 ^ s.platform.pixelWidth.bits ∧ (0x80 : Pixel).toNat < 2 ^ s.platform.pixelWidth.bits ∧
      exec (.setFgColor 0xEE) s = .next v ∧ exec (.setBgColor 0x80) v = .next t ∧
      exec (.rasterize 4 6 0x20003000) t = .next u ∧
      s.topLine.toNat ≤ (6 : Dim).toNat ∧ (6 : Dim).toNat < s.topLine.toNat + s.height.toNat := by
  obtain ⟨u, hu⟩ := nextOf_exists (r := exec (.rasterize 4 6 0x20003000) { narrow .w8 with
    bgPresent := false, bgBase := 0, palette1 := 0xEE, palette0 := 0x80, response := some ⟨.ok, 0, 0, 0, 0⟩ }) (by decide)
  exact ⟨{ narrow .w8 with bgPresent := false, bgBase := 0 }, _, _, u, rfl, rfl, by decide, by decide, rfl, rfl, hu,
    by decide, by decide⟩

/-- The first and last register number of each clause. -/
theorem witness_ReadRegReturnsTheRegister :
    (ready .lsbFirst).mode ≠ .halted ∧ (blank .lsbFirst).mode ≠ .halted ∧ ¬ 9 < (9 : BitVec 8).toNat ∧
      9 < (10 : BitVec 8).toNat ∧ 9 < (255 : BitVec 8).toNat := by decide

theorem witness_UnconfiguredRegistersReadZero :
    (blank .lsbFirst).Inv ∧ (blank .lsbFirst).mode = .unconfigured ∧ (9 : BitVec 8).toNat ≤ 9 :=
  ⟨blank_inv _, rfl, by decide⟩

theorem witness_OnlyTwoCommandsWriteMemory :
    ∃ (i : Instr) (s t : State), (∀ cpp line dest, i ≠ .rasterize cpp line dest) ∧ i ≠ .copyToBack ∧ exec i s = .next t :=
  ⟨.init 640 480 0, blank .lsbFirst, _, fun _ _ _ h => (nomatch h), fun h => (nomatch h), rfl⟩

theorem witness_EachVariableHasItsWriters :
    ∃ (i : Instr) (s t : State), exec i s = .next t ∧ (∀ w h l, i ≠ .init w h l) ∧ (∀ w h l a, i ≠ .initBg w h l a) ∧
      i ≠ .destroy ∧ (∀ c, i ≠ .setBgColor c) ∧ (∀ c, i ≠ .setFgColor c) ∧ (∀ a, i ≠ .setBackground a) ∧
      i ≠ .clrBackground ∧ i ≠ .makeBackGraphics := by
  obtain ⟨t, ht⟩ := nextOf_exists (r := exec (.rasterize 1 6 0x20003000) (drawn .lsbFirst)) (by decide)
  exact ⟨_, _, t, ht, fun _ _ _ h => (nomatch h), fun _ _ _ _ h => (nomatch h), fun h => (nomatch h),
    fun _ h => (nomatch h), fun _ h => (nomatch h), fun _ h => (nomatch h), fun h => (nomatch h), fun h => (nomatch h)⟩

/-- An in-range RASTERIZE whose row is allowed. -/
theorem witness_PermittedCommandsAreSafe :
    ∃ (s : State) (p : Port) (cmd : Command) (rest : List Event), s.Inv ∧ s.mode ≠ .halted ∧
      s.pending = .command p cmd :: rest ∧ ∀ i, decode s.platform.pixelWidth cmd = .ok i → s.Permits i := by
  refine ⟨_, .D, 0x10000000000000010000000620003000, [],
    inv_advance (ready_inv .lsbFirst) [.command .D 0x10000000000000010000000620003000], by decide, rfl, fun i h => ?_⟩
  have hi : i = .rasterize 1 6 0x20003000 := (Except.ok.inj h).symm
  subst hi
  intro _ row hr
  have h1 : row = 1 := (Option.some.inj hr).symm
  subst h1
  decide

theorem witness_ResetStateMeetsTheInvariant : (bench .lsbFirst).Valid ∧ (narrow .w8).platform.Valid := by decide

theorem witness_ArenaIsNeverRewound : ∃ s t : State, step s = .next t ∧ s.arenaNext < t.arenaNext :=
  ⟨(blank .lsbFirst).withFetchWord 128 0x0100000001E002800000000000000000, _, rfl, by decide⟩

theorem witness_EveryStepKeepsTheInvariant :
    (∃ s t : State, s.Inv ∧ s.mode = .ready ∧ step s = .next t ∧ t.mode = .halted) ∧
      ∃ s t : State, s.Inv ∧ s.mode = .halted ∧ step s = .next t ∧ t.mode = .unconfigured :=
  ⟨⟨{ remote with pending := [.command .D 0x31000000000000000000000000000000] }, _, inv_advance remote_inv _, rfl, rfl, rfl⟩,
    ⟨{ halted with pending := [.resetLine true] }, _, inv_advance halted_inv _, rfl, rfl, rfl⟩⟩

end Sys2Proof.Tests
end

