-- ==== Sys2Proof/Proofs/Scope.lean ====
section
/-! The statements from 00_scope.md: the width of a pixel (R6, R7, R9) and the stuck requester (R10). -/

namespace Sys2Proof

/-- PIXW takes one of three values (R7). -/
theorem PixelWidth.bits_eq_8_or_16_or_32 (w : PixelWidth) : w.bits = 8 ∨ w.bits = 16 ∨ w.bits = 32 := by
  cases w with
  | w8 => exact .inl rfl
  | w16 => exact .inr (.inl rfl)
  | w32 => exact .inr (.inr rfl)

end Sys2Proof

namespace Sys2Proof.Machine

/-! ### What a pixel access reads (R9) -/

/-- The bytes of one pixel hold a PIXW-bit value. -/
theorem Memory.readNat_bytes_lt (m : Memory) (w : PixelWidth) (a : Nat) : m.readNat a w.bytes < 2 ^ w.bits := by
  rw [w.two_pow_bits]
  exact m.readNat_lt a w.bytes

/-- The 32 bits of a `Pixel` cut nothing off what the access reads. -/
theorem Memory.toNat_readPixel (m : Memory) (w : PixelWidth) (a : Nat) :
    (m.readPixel w a).toNat = m.readNat a w.bytes := by
  have hlt : m.readNat a w.bytes < 2 ^ 32 := (m.readNat_bytes_lt w a).trans_le w.two_pow_bits_le
  rw [Memory.readPixel, BitVec.toNat_ofNat, Nat.mod_eq_of_lt hlt]

/-! ### The stuck requester (R10) -/

theorem takeCommand_of_portStuck {s : State} {p : Port} (cmd : Command) (h : s.portStuck p = true) :
    takeCommand p cmd s = .next s := by
  simp [takeCommand, h]

theorem agentWrite_of_agentStuck {s : State} {agent : Agent} (a n v : Nat) (h : s.agentStuck agent = true) :
    agentWrite agent a n v s = .next s := by
  simp [agentWrite, h]

theorem agentRead_of_agentStuck {s : State} {agent : Agent} (a n : Nat) (h : s.agentStuck agent = true) :
    agentRead agent a n s = .next s := by
  simp [agentRead, h]

/-- The agent that makes this step of the global sequence is stuck; the reset input is no agent's. -/
def State.issuerStuck (s : State) : Event → Bool
  | .command p _ => s.portStuck p
  | .write agent _ _ _ => s.agentStuck agent
  | .read agent _ _ => s.agentStuck agent
  | .resetLine _ => false

@[simp] theorem State.advance_issuerStuck (s : State) (rest : List Event) (e : Event) :
    (s.advance rest).issuerStuck e = s.issuerStuck e := by
  cases e <;> simp [State.issuerStuck]

/-- What a stuck agent would do has no effect. -/
theorem handle_of_issuerStuck {s : State} {e : Event} (h : s.issuerStuck e = true) : handle e s = .next s := by
  cases e with
  | command p cmd => exact takeCommand_of_portStuck cmd h
  | write agent a n v => exact agentWrite_of_agentStuck a n v h
  | read agent a n => exact agentRead_of_agentStuck a n h
  | resetLine asserted => cases h

/-- A step of a stuck agent is passed over. -/
theorem step_of_issuerStuck {s : State} {e : Event} (rest : List Event) (h : s.issuerStuck e = true) :
    step (s.advance (e :: rest)) = .next (s.advance rest) := by
  have hcons : step (s.advance (e :: rest)) = handle e (s.advance rest) := stepEvent_cons rfl
  rw [hcons]
  exact handle_of_issuerStuck (by simpa using h)

end Sys2Proof.Machine

namespace Sys2Proof.Proofs

open Sys2Proof.Machine

/-- Settles O43: the widths by cases on PIXW, the bound on what is read by `Memory.readNat_lt`'s induction over bytes. -/
theorem pixelsHaveTheirWidth : Obligations.PixelsHaveTheirWidth :=
  ⟨fun w => ⟨rfl, w.bits_eq_8_or_16_or_32⟩, fun m w a => ⟨m.toNat_readPixel w a, m.readNat_bytes_lt w a⟩⟩

/-- Settles O14: each of the six steps is one whose issuer is stuck. -/
theorem stuckAgentActsNoMore : Obligations.StuckAgentActsNoMore := by
  intro s rest a n v cmd
  have skipped : ∀ e, s.issuerStuck e = true → step (s.advance (e :: rest)) = .next (s.advance rest) :=
    fun _ => step_of_issuerStuck rest
  constructor
  · intro hT
    exact ⟨skipped (.command .T cmd) hT, skipped (.write .consumer a n v) hT, skipped (.read .consumer a n) hT⟩
  · intro hD
    exact ⟨skipped (.command .D cmd) hD, skipped (.write .producer a n v) hD, skipped (.read .producer a n) hD⟩

end Sys2Proof.Proofs
end

/-! The statements from 10_state.md: what each command and each step writes (R22 to R27, R35, R37), what a reset gives (R36)
and the invariant every step keeps (R28). The layer below says once what `exec` and `handle` can answer; the statements are
read off from it. -/

namespace Sys2Proof.Machine

/-! ### What an instruction can answer -/

/-- The command changes no variable: it is rejected, or DBRC is halted (30_encoding.md R89 (1), (4); 60_exceptions.md
R203, R204, R208). -/
inductive State.TurnsAway (s : State) : State → Prop
  | rejected (st : Status) (hm : s.mode ≠ .halted) : s.TurnsAway (s.reject st)
  | silent (hm : s.mode = .halted) : s.TurnsAway s.noResponse

/-- INIT and INIT.BG with the operands of 40_lifecycle.md R100, `bg` being `bg_addr` where given. -/
inductive Instr.Constructs : Instr → Dim → Dim → Dim → Option Addr → Prop
  | init (width height topLine : Dim) : Instr.Constructs (.init width height topLine) width height topLine none
  | initBg (width height topLine : Dim) (bgAddr : Addr) :
      Instr.Constructs (.initBg width height topLine bgAddr) width height topLine (some bgAddr)

/-- The words of one plane that INIT asks the allocator for (40_lifecycle.md R100). -/
def wordsAsked (width height : Dim) : Nat := width.toNat / Config.bpw * height.toNat

/-- The state a completed INIT leaves, with the addresses of the reference allocator (47_external_units.md R176). -/
def State.built (s : State) (width height topLine : Dim) (bg : Option Addr) : State :=
  (s.construct width height topLine bg s.arenaNext (s.arenaNext + wordsAsked width height * Config.wordBytes)
    (s.arenaNext + 2 * (wordsAsked width height * Config.wordBytes))).done

/-- Every next state an instruction can answer, one constructor for each way it can end. -/
inductive State.Executes (s : State) : Instr → State → Prop
  | turnedAway {i : Instr} {t : State} (h : s.TurnsAway t) : s.Executes i t
  | constructed {i : Instr} {width height topLine : Dim} {bg : Option Addr}
      (hi : Instr.Constructs i width height topLine bg) (hm : s.mode = .unconfigured)
      (hw : width.toNat % Config.bpw = 0) (hr : s.ArenaHasRoom (wordsAsked width height)) :
      s.Executes i (s.built width height topLine bg)
  | starved {i : Instr} {width height topLine : Dim} {bg : Option Addr}
      (hi : Instr.Constructs i width height topLine bg) (hm : s.mode = .unconfigured)
      (hr : ¬ s.ArenaHasRoom (wordsAsked width height)) : s.Executes i s.allocationFails
  | destroy (hm : s.mode = .ready) : s.Executes .destroy s.clearBlock.done
  | rasterizeOutside {cpp : Cpp} {line : Dim} {dest : Addr} (hm : s.mode = .ready)
      (hn : (s.atLine line).rowInRange line = none) :
      s.Executes (.rasterize cpp line dest) ((s.atLine line).respond 0 0 cpp 0)
  | rasterizeRow {cpp : Cpp} {line : Dim} {dest : Addr} {row : Nat} (hm : s.mode = .ready)
      (hrow : (s.atLine line).rowInRange line = some row) (ha : (s.atLine line).RowAllowed row dest.toNat) :
      s.Executes (.rasterize cpp line dest)
        ({ s.atLine line with mem := (s.atLine line).expandRow row dest.toNat }.respond 0
          (BitVec.ofNat 32 (s.atLine line).rowPixels) cpp 0)
  | pendFlip (hm : s.mode = .ready) : s.Executes .pendFlip { s with flipPending := true }.done
  | flipNow (hm : s.mode = .ready) : s.Executes .flipNow s.flip.done
  | getBackBuffer (hm : s.mode = .ready) : s.Executes .getBackBuffer s.describeBack
  | backGranted (hm : s.mode = .ready) (hb : s.bitAddressable s.backBase = true) :
      s.Executes .makeBackGraphics s.describeBack
  | backHalts (hm : s.mode = .ready) (hb : s.bitAddressable s.backBase = false) :
      s.Executes .makeBackGraphics s.raiseFatal
  | copyToBack (hm : s.mode = .ready) (hp : s.planeWords = 0 ∨ s.planesValid = true) :
      s.Executes .copyToBack
        { s with mem := copyWords s.mem s.frontBase.toNat s.backBase.toNat s.planeWords }.done
  | planeIsBitAddressable {sel : Selector} (hm : s.mode = .ready) :
      s.Executes (.planeIsBitAddressable sel) (s.respond (flagBit (s.bitAddressable (s.selectedBase sel))) 0 0 0)
  | setFgColor {color : Pixel} (hm : s.mode = .ready) (hc : s.platform.pixelWidth.fits color = true) :
      s.Executes (.setFgColor color) { s with palette1 := color }.done
  | setBgColor {color : Pixel} (hm : s.mode = .ready) (hc : s.platform.pixelWidth.fits color = true) :
      s.Executes (.setBgColor color) { s with palette0 := color }.done
  | setBackground {addr : Addr} (hm : s.mode = .ready) :
      s.Executes (.setBackground addr) { s with bgPresent := true, bgBase := addr }.done
  | clrBackground (hm : s.mode = .ready) :
      s.Executes .clrBackground { s with bgPresent := false, bgBase := 0 }.done
  | readReg {reg : BitVec 8} {v : BitVec 32} (hm : s.mode ≠ .halted) (hv : s.regValue reg = some v) :
      s.Executes (.readReg reg) (s.respond v 0 0 0)

theorem State.executes_of_whenReady {s t : State} {i : Instr} {e : Result} (h : s.whenReady e = .next t)
    (k : s.mode = .ready → e = .next t → s.Executes i t) : s.Executes i t := by
  rcases State.whenReady_next h with ⟨hm, he⟩ | ⟨hm, rfl⟩ | ⟨hm, rfl⟩
  · exact k hm he
  · exact .turnedAway (.rejected _ (by simp [hm]))
  · exact .turnedAway (.silent hm)

theorem State.executes_of_unlessHalted {s t : State} {i : Instr} {e : Result} (h : s.unlessHalted e = .next t)
    (k : s.mode ≠ .halted → e = .next t → s.Executes i t) : s.Executes i t := by
  rcases State.unlessHalted_next h with ⟨hm, he⟩ | ⟨hm, rfl⟩
  · exact k hm he
  · exact .turnedAway (.silent hm)

theorem State.executes_of_withColor {s t : State} {i : Instr} {color : Pixel} {e : Result}
    (h : s.withColor color e = .next t)
    (k : s.mode = .ready → s.platform.pixelWidth.fits color = true → e = .next t → s.Executes i t) :
    s.Executes i t := by
  rcases State.withColor_next h with ⟨hc, h⟩ | ⟨_, hm, rfl⟩ | ⟨hm, rfl⟩
  · exact State.executes_of_whenReady h fun hm he => k hm hc he
  · exact .turnedAway (.rejected _ hm)
  · exact .turnedAway (.silent hm)

/-- INIT and INIT.BG: rejected, built, or never answered by the allocator. -/
theorem State.executes_of_initialise {s t : State} {i : Instr} {width height topLine : Dim} {bg : Option Addr}
    (hi : Instr.Constructs i width height topLine bg) (h : s.initialise width height topLine bg = .next t) :
    s.Executes i t := by
  rcases State.whenUnconfigured_next h with ⟨hm, he⟩ | ⟨hm, rfl⟩ | ⟨hm, rfl⟩
  · split at he
    · rename_i hw
      cases he
      unfold State.initialiseAligned
      by_cases hr : s.ArenaHasRoom (wordsAsked width height)
      · rw [← wordsAsked, State.allocatePlanes_of_room hr]
        exact .constructed hi hm hw hr
      · rw [← wordsAsked, State.allocatePlanes_of_no_room hr]
        exact .starved hi hm hr
    · cases he
  · exact .turnedAway (.rejected _ (by simp [hm]))
  · exact .turnedAway (.silent hm)

/-- RASTERIZE once it is admitted: the zero-length descriptor, or an allowed row. -/
theorem State.executes_of_produceRow {s t : State} {cpp : Cpp} {line : Dim} {dest : Addr} (hm : s.mode = .ready)
    (h : (s.atLine line).produceRow cpp line dest = .next t) : s.Executes (.rasterize cpp line dest) t := by
  unfold State.produceRow at h
  split at h
  · rename_i hn
    cases h
    exact .rasterizeOutside hm hn
  · rename_i row hrow
    split at h
    · rename_i u hu
      obtain ⟨ha, rfl⟩ := State.rasterRow_ok hu
      cases h
      exact .rasterizeRow hm hrow ha
    · cases h

/-- A next state of `exec` is one of `State.Executes`. -/
theorem executes_of_exec {i : Instr} {s t : State} (h : exec i s = .next t) : s.Executes i t := by
  cases i with
  | init width height topLine => exact State.executes_of_initialise (.init _ _ _) h
  | initBg width height topLine bgAddr => exact State.executes_of_initialise (.initBg _ _ _ _) h
  | destroy => exact State.executes_of_whenReady h fun hm he => by cases he; exact .destroy hm
  | rasterize cpp line dest => exact State.executes_of_whenReady h State.executes_of_produceRow
  | pendFlip => exact State.executes_of_whenReady h fun hm he => by cases he; exact .pendFlip hm
  | flipNow => exact State.executes_of_whenReady h fun hm he => by cases he; exact .flipNow hm
  | getBackBuffer => exact State.executes_of_whenReady h fun hm he => by cases he; exact .getBackBuffer hm
  | makeBackGraphics =>
    refine State.executes_of_whenReady h fun hm he => ?_
    cases he
    split
    · exact .backGranted hm ‹_›
    · rename_i hb
      exact .backHalts hm (by simpa using hb)
  | copyToBack =>
    refine State.executes_of_whenReady h fun hm he => ?_
    split at he
    · rename_i u hu
      obtain ⟨rfl, hp⟩ := State.copyFrontToBack_ok hu
      cases he
      exact .copyToBack hm hp
    · cases he
  | planeIsBitAddressable sel =>
    exact State.executes_of_whenReady h fun hm he => by cases he; exact .planeIsBitAddressable hm
  | setFgColor color => exact State.executes_of_withColor h fun hm hc he => by cases he; exact .setFgColor hm hc
  | setBgColor color => exact State.executes_of_withColor h fun hm hc he => by cases he; exact .setBgColor hm hc
  | setBackground addr => exact State.executes_of_whenReady h fun hm he => by cases he; exact .setBackground hm
  | clrBackground => exact State.executes_of_whenReady h fun hm he => by cases he; exact .clrBackground hm
  | readReg reg =>
    refine State.executes_of_unlessHalted h fun hm he => ?_
    cases he
    split
    · exact .readReg hm ‹_›
    · exact .turnedAway (.rejected _ hm)

/-- A next state of a command is one of its instruction, or an illegal command is turned away. -/
theorem executes_of_execCommand {cmd : Command} {s t : State} (h : execCommand cmd s = .next t) :
    (∃ i, decode s.platform.pixelWidth cmd = .ok i ∧ s.Executes i t) ∨ s.TurnsAway t := by
  cases hd : decode s.platform.pixelWidth cmd with
  | ok i =>
    rw [execCommand_ok hd] at h
    exact .inl ⟨i, rfl, executes_of_exec h⟩
  | error e =>
    rw [execCommand_error hd] at h
    rcases State.unlessHalted_next h with ⟨hm, he⟩ | ⟨hm, rfl⟩
    · cases he
      exact .inr (.rejected _ hm)
    · exact .inr (.silent hm)

/-! ### What a step can do -/

/-- Every next state an event can leave. A command, a write or a read is passed over where its agent is stuck, a command
also under reset. -/
inductive State.Handles (s : State) : Event → State → Prop
  | passedOver {e : Event} : s.Handles e s
  | taken {p : Port} {cmd : Command} {u : State} (hr : s.resetAsserted = false) (hp : s.portStuck p = false)
      (hu : execCommand cmd s = .next u) : s.Handles (.command p cmd) (u.answer p cmd)
  | wrote {agent : Agent} {a n v : Nat} (ha : a + n ≤ Config.addressSpace) :
      s.Handles (.write agent a n v) { s with mem := s.mem.writeNat a n v }
  | fetched {agent : Agent} {a n : Nat} (ha : a + n ≤ Config.addressSpace) :
      s.Handles (.read agent a n) { s with lastRead := some (s.mem.readNat a n) }
  | resetLevel {asserted : Bool} : s.Handles (.resetLine asserted) (setResetLine asserted s)

theorem returnTo_next {p : Port} {cmd : Command} {r : Result} {t : State} (h : returnTo p cmd r = .next t) :
    ∃ u, r = .next u ∧ t = u.answer p cmd := by
  cases r with
  | next u => exact ⟨u, rfl, by cases h; rfl⟩
  | fault f => cases h
  | refused f => cases h

theorem handles_of_takeCommand {p : Port} {cmd : Command} {s t : State} (h : takeCommand p cmd s = .next t) :
    s.Handles (.command p cmd) t := by
  unfold takeCommand at h
  split at h
  · cases h
    exact .passedOver
  · rename_i hr
    split at h
    · cases h
      exact .passedOver
    · rename_i hp
      obtain ⟨u, hu, rfl⟩ := returnTo_next h
      exact .taken (by simpa using hr) (by simpa using hp) hu

theorem handles_of_agentWrite {agent : Agent} {a n v : Nat} {s t : State} (h : agentWrite agent a n v s = .next t) :
    s.Handles (.write agent a n v) t := by
  unfold agentWrite at h
  split at h
  · cases h
    exact .passedOver
  · split at h
    · cases h
    · rename_i hl
      cases h
      exact .wrote (leavesSpace_eq_false.mp (by simpa using hl))

theorem handles_of_agentRead {agent : Agent} {a n : Nat} {s t : State} (h : agentRead agent a n s = .next t) :
    s.Handles (.read agent a n) t := by
  unfold agentRead at h
  split at h
  · cases h
    exact .passedOver
  · split at h
    · cases h
    · rename_i hl
      cases h
      exact .fetched (leavesSpace_eq_false.mp (by simpa using hl))

/-- A next state of `handle` is one of `State.Handles`. -/
theorem handles_of_handle {e : Event} {s t : State} (h : handle e s = .next t) : s.Handles e t := by
  cases e with
  | command p cmd => exact handles_of_takeCommand h
  | write agent a n v => exact handles_of_agentWrite h
  | read agent a n => exact handles_of_agentRead h
  | resetLine asserted =>
    cases h
    exact .resetLevel

/-- A step waits, or handles the first event to come. -/
theorem handles_of_step {s t : State} (h : step s = .next t) :
    t = s ∨ ∃ e rest, s.pending = e :: rest ∧ (s.advance rest).Handles e t := by
  cases hp : s.pending with
  | nil =>
    have hs : step s = .next s := stepEvent_nil hp
    rw [hs] at h
    cases h
    exact .inl rfl
  | cons e rest =>
    have hs : step s = handle e (s.advance rest) := stepEvent_cons hp
    exact .inr ⟨e, rest, rfl, handles_of_handle (hs ▸ h)⟩

/-! ### The response on its port (30_encoding.md R86) -/

/-- Returning the response writes the port and nothing else. -/
theorem State.answer_eq_setPort (s : State) (p : Port) (cmd : Command) : ∃ v, s.answer p cmd = s.setPort p v := by
  unfold State.answer
  split
  · exact ⟨_, rfl⟩
  · exact ⟨_, rfl⟩

@[simp] theorem State.answer_mode (s : State) (p : Port) (cmd : Command) : (s.answer p cmd).mode = s.mode := by
  obtain ⟨v, hv⟩ := s.answer_eq_setPort p cmd
  simp [hv]

@[simp] theorem State.answer_arenaNext (s : State) (p : Port) (cmd : Command) :
    (s.answer p cmd).arenaNext = s.arenaNext := by
  obtain ⟨v, hv⟩ := s.answer_eq_setPort p cmd
  simp [hv]

@[simp] theorem State.answer_allocatorStopped (s : State) (p : Port) (cmd : Command) :
    (s.answer p cmd).allocatorStopped = s.allocatorStopped := by
  obtain ⟨v, hv⟩ := s.answer_eq_setPort p cmd
  simp [hv]

@[simp] theorem State.answer_platform (s : State) (p : Port) (cmd : Command) :
    (s.answer p cmd).platform = s.platform := by
  obtain ⟨v, hv⟩ := s.answer_eq_setPort p cmd
  simp [hv]

@[simp] theorem State.answer_resetAsserted (s : State) (p : Port) (cmd : Command) :
    (s.answer p cmd).resetAsserted = s.resetAsserted := by
  obtain ⟨v, hv⟩ := s.answer_eq_setPort p cmd
  simp [hv]

/-- A response leaves every requester as stuck as it was. -/
theorem State.answer_portStuck_of_response {s : State} {r : Response} (h : s.response = some r) (p q : Port)
    (cmd : Command) : (s.answer p cmd).portStuck q = s.portStuck q := by
  cases p <;> cases q <;> simp [State.answer, h, State.portStuck, State.port, State.setPort]

/-- Without a response the requester is stuck. -/
theorem State.answer_portStuck_of_none {s : State} (h : s.response = none) (p : Port) (cmd : Command) :
    (s.answer p cmd).portStuck p = true := by
  simp [State.answer, h, State.leaveWaiting, State.portStuck]

/-! ### What a command writes (10_state.md R22 to R27, R35) -/

/-- The consumption of RASTERIZE writes the flip pair alone (41_rasterize.md R112). -/
theorem State.atLine_eq (s : State) (line : Dim) :
    ∃ a f, s.atLine line = { s with activeIndex := a, flipPending := f } := by
  unfold State.atLine
  split
  · exact ⟨_, _, rfl⟩
  · exact ⟨s.activeIndex, s.flipPending, rfl⟩

@[simp] theorem State.atLine_mode (s : State) (line : Dim) : (s.atLine line).mode = s.mode := by
  obtain ⟨a, f, e⟩ := s.atLine_eq line
  rw [e]

@[simp] theorem State.atLine_arenaNext (s : State) (line : Dim) : (s.atLine line).arenaNext = s.arenaNext := by
  obtain ⟨a, f, e⟩ := s.atLine_eq line
  rw [e]

/-- The parameters and what lies outside the block are the same in `t` as in `s`. -/
def State.KeepsOutside (s t : State) : Prop :=
  t.platform = s.platform ∧ t.portT = s.portT ∧ t.portD = s.portD ∧ t.resetAsserted = s.resetAsserted ∧
    t.lastRead = s.lastRead ∧ t.pending = s.pending

/-- The variables that command `i` does not own are the same in `t` as in `s`. -/
def State.WritesItsOwn (s : State) (i : Instr) (t : State) : Prop :=
  s.KeepsOutside t ∧
  ((∀ w h l, i ≠ .init w h l) → (∀ w h l a, i ≠ .initBg w h l a) →
    t.arenaNext = s.arenaNext ∧ t.allocatorStopped = s.allocatorStopped ∧
    (i ≠ .destroy →
      t.width = s.width ∧ t.height = s.height ∧ t.wpl = s.wpl ∧ t.topLine = s.topLine ∧
        t.planeBase0 = s.planeBase0 ∧ t.planeBase1 = s.planeBase1 ∧
        ((∀ c, i ≠ .setBgColor c) → t.palette0 = s.palette0) ∧
        ((∀ c, i ≠ .setFgColor c) → t.palette1 = s.palette1) ∧
        ((∀ a, i ≠ .setBackground a) → i ≠ .clrBackground → t.bgPresent = s.bgPresent ∧ t.bgBase = s.bgBase) ∧
        (i ≠ .makeBackGraphics → t.mode = s.mode)))

/-- A command that writes neither the geometry nor the allocator's state: what is left to check is the owner of the
palette, of the background and of MODE. -/
theorem State.writesItsOwn_of_owners {s : State} {i : Instr} {mode : Mode} {p0 p1 : Pixel} {present : Bool} {base : Addr}
    {r : Option Response} {m : Memory} {a f : Bool}
    (h0 : (∀ c, i ≠ .setBgColor c) → p0 = s.palette0) (h1 : (∀ c, i ≠ .setFgColor c) → p1 = s.palette1)
    (hb : (∀ a, i ≠ .setBackground a) → i ≠ .clrBackground → present = s.bgPresent ∧ base = s.bgBase)
    (hm : i ≠ .makeBackGraphics → mode = s.mode) :
    s.WritesItsOwn i
      { s with
        mode := mode, palette0 := p0, palette1 := p1, bgPresent := present, bgBase := base
        response := r, mem := m, activeIndex := a, flipPending := f } :=
  ⟨⟨rfl, rfl, rfl, rfl, rfl, rfl⟩, fun _ _ => ⟨rfl, rfl, fun _ => ⟨rfl, rfl, rfl, rfl, rfl, rfl, h0, h1, hb, hm⟩⟩⟩

/-- A command that writes at most the response, memory and the flip pair. -/
theorem State.writesItsOwn_of_common (s : State) (i : Instr) (r : Option Response) (m : Memory) (a f : Bool) :
    s.WritesItsOwn i { s with response := r, mem := m, activeIndex := a, flipPending := f } :=
  State.writesItsOwn_of_owners (fun _ => rfl) (fun _ => rfl) (fun _ _ => ⟨rfl, rfl⟩) (fun _ => rfl)

/-- A construction command may write every variable of the block. -/
theorem State.writesItsOwn_of_constructs {s t : State} {i : Instr} {width height topLine : Dim} {bg : Option Addr}
    (hi : Instr.Constructs i width height topLine bg) (h : s.KeepsOutside t) : s.WritesItsOwn i t := by
  refine ⟨h, fun hinit hinitBg => ?_⟩
  cases hi with
  | init => exact absurd rfl (hinit _ _ _)
  | initBg => exact absurd rfl (hinitBg _ _ _ _)

theorem State.TurnsAway.writesItsOwn {s t : State} (h : s.TurnsAway t) (i : Instr) : s.WritesItsOwn i t := by
  cases h with
  | rejected st hm => exact s.writesItsOwn_of_common i _ _ _ _
  | silent hm => exact s.writesItsOwn_of_common i _ _ _ _

theorem State.Executes.writesItsOwn {s t : State} {i : Instr} (h : s.Executes i t) : s.WritesItsOwn i t := by
  cases h with
  | turnedAway h => exact h.writesItsOwn i
  | constructed hi => exact State.writesItsOwn_of_constructs hi ⟨rfl, rfl, rfl, rfl, rfl, rfl⟩
  | starved hi => exact State.writesItsOwn_of_constructs hi ⟨rfl, rfl, rfl, rfl, rfl, rfl⟩
  | destroy => exact ⟨⟨rfl, rfl, rfl, rfl, rfl, rfl⟩, fun _ _ => ⟨rfl, rfl, fun h => absurd rfl h⟩⟩
  | @rasterizeOutside _ line =>
    obtain ⟨a, f, e⟩ := s.atLine_eq line
    rw [e]
    exact s.writesItsOwn_of_common _ _ _ _ _
  | @rasterizeRow _ line =>
    obtain ⟨a, f, e⟩ := s.atLine_eq line
    rw [e]
    exact s.writesItsOwn_of_common _ _ _ _ _
  | pendFlip | flipNow | getBackBuffer | backGranted | copyToBack | planeIsBitAddressable | readReg =>
    exact s.writesItsOwn_of_common _ _ _ _ _
  | backHalts =>
    exact State.writesItsOwn_of_owners (fun _ => rfl) (fun _ => rfl) (fun _ _ => ⟨rfl, rfl⟩) (fun h => absurd rfl h)
  | setFgColor =>
    exact State.writesItsOwn_of_owners (fun _ => rfl) (fun h => absurd rfl (h _)) (fun _ _ => ⟨rfl, rfl⟩) (fun _ => rfl)
  | setBgColor =>
    exact State.writesItsOwn_of_owners (fun h => absurd rfl (h _)) (fun _ => rfl) (fun _ _ => ⟨rfl, rfl⟩) (fun _ => rfl)
  | setBackground =>
    exact State.writesItsOwn_of_owners (fun _ => rfl) (fun _ => rfl) (fun h _ => absurd rfl (h _)) (fun _ => rfl)
  | clrBackground =>
    exact State.writesItsOwn_of_owners (fun _ => rfl) (fun _ => rfl) (fun _ h => absurd rfl h) (fun _ => rfl)

/-! ### The allocator's pointer (R35, R37) -/

theorem State.TurnsAway.arenaNext_eq {s t : State} (h : s.TurnsAway t) : t.arenaNext = s.arenaNext := by
  cases h <;> rfl

/-- Only a construction moves ARENA_NEXT, and it moves it up. -/
theorem State.Executes.arenaNext_le {s t : State} {i : Instr} (h : s.Executes i t) : s.arenaNext ≤ t.arenaNext := by
  cases h with
  | turnedAway h => exact h.arenaNext_eq.ge
  | constructed => exact Nat.le_add_right _ _
  | rasterizeOutside | rasterizeRow => exact (s.atLine_arenaNext _).ge
  | starved | destroy | pendFlip | flipNow | getBackBuffer | backGranted | backHalts | copyToBack
  | planeIsBitAddressable | setFgColor | setBgColor | setBackground | clrBackground | readReg => exact Nat.le_refl _

/-- A command taken keeps what lies outside the block and never moves ARENA_NEXT down. -/
theorem execCommand_arena {cmd : Command} {s t : State} (h : execCommand cmd s = .next t) :
    s.arenaNext ≤ t.arenaNext ∧ s.KeepsOutside t := by
  rcases executes_of_execCommand h with ⟨i, _, hx⟩ | ha
  · exact ⟨hx.arenaNext_le, hx.writesItsOwn.1⟩
  · exact ⟨ha.arenaNext_eq.ge, (ha.writesItsOwn .pendFlip).1⟩

theorem State.Handles.arena {s t : State} {e : Event} (h : s.Handles e t) :
    s.arenaNext ≤ t.arenaNext ∧ t.platform = s.platform := by
  cases h with
  | passedOver => exact ⟨Nat.le_refl _, rfl⟩
  | taken hr hp hu =>
    obtain ⟨hnext, hplatform, _⟩ := execCommand_arena hu
    simpa using ⟨hnext, hplatform⟩
  | wrote => exact ⟨Nat.le_refl _, rfl⟩
  | fetched => exact ⟨Nat.le_refl _, rfl⟩
  | @resetLevel asserted => cases asserted <;> exact ⟨Nat.le_refl _, rfl⟩

/-! ### The reset values (R36) -/

theorem State.cleared_clearBlock (s : State) : s.clearBlock.Cleared :=
  ⟨rfl, rfl, rfl, rfl, rfl, rfl, rfl, rfl, rfl, rfl, rfl, rfl⟩

/-- Asserting the reset input clears the block. -/
theorem State.cleared_setResetLine (s : State) : (setResetLine true s).Cleared :=
  { s.cleared_clearBlock with }

theorem State.cleared_resetOn (p : Platform) : (State.resetOn p).Cleared :=
  ⟨rfl, rfl, rfl, rfl, rfl, rfl, rfl, rfl, rfl, rfl, rfl, rfl⟩

/-! ### What INIT establishes (R28, R37; 47_external_units.md R175) -/

section
variable {s : State} {width height topLine : Dim} {bg : Option Addr}

/-- With room in the arena both plane addresses are addresses, so the registers hold them uncut. -/
theorem State.built_planeBases (hr : s.ArenaHasRoom (wordsAsked width height)) :
    (s.built width height topLine bg).planeBase0.toNat = s.arenaNext ∧
      (s.built width height topLine bg).planeBase1.toNat =
        s.arenaNext + wordsAsked width height * Config.wordBytes := by
  obtain ⟨_, _, hspace⟩ := hr
  constructor
  · exact Nat.mod_eq_of_lt (Nat.lt_of_add_right_lt hspace)
  · exact Nat.mod_eq_of_lt hspace

theorem State.built_arenaNext : (s.built width height topLine bg).arenaNext =
    s.arenaNext + 2 * (wordsAsked width height * Config.wordBytes) := rfl

theorem State.built_wpl_toNat : (s.built width height topLine bg).wpl.toNat = width.toNat / Config.bpw :=
  BitVec.toNat_udiv

/-- A plane is what INIT asked the allocator for. -/
theorem State.built_planeBytes :
    (s.built width height topLine bg).planeBytes = wordsAsked width height * Config.wordBytes := by
  rw [State.planeBytes, State.planeWords, State.built_wpl_toNat]
  rfl

theorem State.built_constructed (hnext : s.arenaNext % Config.wordBytes = 0)
    (hbase : s.platform.arenaBase ≤ s.arenaNext) (hw : width.toNat % Config.bpw = 0)
    (hr : s.ArenaHasRoom (wordsAsked width height)) : (s.built width height topLine bg).Constructed := by
  obtain ⟨h0, h1⟩ := State.built_planeBases (topLine := topLine) (bg := bg) hr
  have hb := State.built_planeBytes (s := s) (width := width) (height := height) (topLine := topLine) (bg := bg)
  have hn := State.built_arenaNext (s := s) (width := width) (height := height) (topLine := topLine) (bg := bg)
  exact {
    width := by
      rw [State.built_wpl_toNat]
      exact (Nat.div_mul_cancel (Nat.dvd_of_mod_eq_zero hw)).symm
    aligned0 := by rw [h0, hnext]
    aligned1 := by rw [h1, Nat.add_mul_mod_self_right, hnext]
    fromArena0 := ⟨h0 ▸ hbase, by omega⟩
    fromArena1 := ⟨h1 ▸ Nat.le_add_right_of_le hbase, by omega⟩
    apart := .inr (.inr (.inl (by omega))) }

end

/-- Only a completed construction leaves UNCONFIGURED for READY. -/
theorem State.Executes.built_of_ready {s t : State} {i : Instr} (h : s.Executes i t) (hm : s.mode = .unconfigured)
    (ht : t.mode = .ready) : ∃ width height topLine bg, width.toNat % Config.bpw = 0 ∧
      s.ArenaHasRoom (wordsAsked width height) ∧ t = s.built width height topLine bg := by
  cases h with
  | constructed _ _ hw hr => exact ⟨_, _, _, _, hw, hr, rfl⟩
  | turnedAway h => cases h <;> simp [hm] at ht
  | starved | readReg => simp [hm] at ht
  | _ hready => simp [hm] at hready

/-! ### The invariant's two halves (R28, R36)

What the block, memory and the allocator's pointer hold is one half; which requester is stuck is the other. -/

/-- The half of `State.Inv` about the block's variables, memory and ARENA_NEXT. -/
structure State.Sound (s : State) : Prop where
  platform : s.platform.Valid
  memory : s.mem.wf = true
  arena : s.arenaNext % Config.wordBytes = 0 ∧ s.platform.arenaBase ≤ s.arenaNext ∧
    s.arenaNext ≤ s.platform.arenaLimit
  unconfigured : s.mode = .unconfigured → s.Cleared
  constructed : s.mode ≠ .unconfigured → s.Constructed
  palette : s.PaletteFits
  background : s.bgPresent = false → s.bgBase = 0

/-- Where a requester may be stuck: at a halted block or behind an INIT the allocator never answered (00_scope.md R10). -/
def State.Stops (s : State) : Prop := s.mode = .halted ∨ (s.mode = .unconfigured ∧ s.allocatorStopped = true)

/-- The half of `State.Inv` about the reset input and the requesters. -/
structure State.PortsSound (s : State) : Prop where
  resetHeld : s.resetAsserted = true → s.mode = .unconfigured
  waiting : s.portStuck .T = true ∨ s.portStuck .D = true → s.Stops
  halted : s.mode = .halted → s.portStuck .T = true ∨ s.portStuck .D = true

theorem State.inv_iff {s : State} : s.Inv ↔ s.Sound ∧ s.PortsSound :=
  ⟨fun h => ⟨⟨h.platform, h.memory, h.arena, h.unconfigured, h.constructed, h.palette, h.background⟩,
      ⟨h.resetHeld, h.waiting, h.halted⟩⟩,
    fun ⟨h, hp⟩ => ⟨h.platform, h.memory, h.arena, h.unconfigured, h.constructed, h.palette, h.background,
      hp.resetHeld, hp.waiting, hp.halted⟩⟩

/-! ### The block, memory and the arena -/

/-- The state without what `State.Sound` does not speak of: the ports, the reset input, the steps to come, the model's own
records and whether the allocator stopped. -/
def State.bare (s : State) : State :=
  { s with
    allocatorStopped := false, response := none, portT := .idle, portD := .idle
    resetAsserted := false, lastRead := none, pending := [] }

theorem State.sound_bare_iff {s : State} : s.bare.Sound ↔ s.Sound :=
  ⟨fun h => { h with
      unconfigured := fun hm => { h.unconfigured hm with }
      constructed := fun hm => { h.constructed hm with } },
    fun h => { h with
      unconfigured := fun hm => { h.unconfigured hm with }
      constructed := fun hm => { h.constructed hm with } }⟩

/-- Soundness moves along a step that changes nothing it speaks of. -/
theorem State.Sound.of_bare_eq {s t : State} (h : s.Sound) (he : t.bare = s.bare) : t.Sound :=
  State.sound_bare_iff.mp (he ▸ State.sound_bare_iff.mpr h)

/-- What only construction and DESTROY write: the variables `State.Constructed` speaks of. -/
def State.geometry (s : State) : Platform × Nat × Dim × Dim × Dim × Addr × Addr :=
  (s.platform, s.arenaNext, s.width, s.height, s.wpl, s.planeBase0, s.planeBase1)

/-- A configured block stays sound whatever is written beside its geometry, as long as memory, the palette and the
background keep their own clauses. -/
theorem State.Sound.of_geometry_eq {s t : State} (h : s.Sound) (hs : s.mode = .ready) (hg : t.geometry = s.geometry)
    (ht : t.mode ≠ .unconfigured) (hmem : t.mem.wf = true) (hpal : t.PaletteFits)
    (hbg : t.bgPresent = false → t.bgBase = 0) : t.Sound := by
  have hc : s.Constructed := h.constructed (by simp [hs])
  simp only [State.geometry, Prod.mk.injEq] at hg
  obtain ⟨hplat, hnext, hwidth, hheight, hwpl, h0, h1⟩ := hg
  have hb : t.planeBytes = s.planeBytes := by simp only [State.planeBytes, State.planeWords, hwpl, hheight]
  exact {
    platform := hplat ▸ h.platform
    memory := hmem
    arena := hplat ▸ hnext ▸ h.arena
    unconfigured := fun hm => absurd hm ht
    constructed := fun _ => {
      width := by rw [hwidth, hwpl, hc.width]
      aligned0 := by rw [h0, hc.aligned0]
      aligned1 := by rw [h1, hc.aligned1]
      fromArena0 := by rw [hplat, hnext, h0, hb]; exact hc.fromArena0
      fromArena1 := by rw [hplat, hnext, h1, hb]; exact hc.fromArena1
      apart := by rw [h0, h1, hb]; exact hc.apart }
    palette := hpal
    background := hbg }

theorem State.Sound.clearBlock {s : State} (h : s.Sound) : s.clearBlock.Sound where
  platform := h.platform
  memory := h.memory
  arena := h.arena
  unconfigured _ := s.cleared_clearBlock
  constructed hm := absurd rfl hm
  palette := ⟨PixelWidth.fits_zero _, PixelWidth.fits_zero _⟩
  background _ := rfl

theorem State.Sound.built {s : State} {width height topLine : Dim} {bg : Option Addr} (h : s.Sound)
    (hw : width.toNat % Config.bpw = 0) (hr : s.ArenaHasRoom (wordsAsked width height)) :
    (s.built width height topLine bg).Sound := by
  obtain ⟨_, hoff, hon, _⟩ := h.platform
  obtain ⟨halign, hbase, _⟩ := h.arena
  have hc : (s.built width height topLine bg).Constructed := State.built_constructed halign hbase hw hr
  have hnext : (s.built width height topLine bg).arenaNext % Config.wordBytes = 0 := by
    rw [State.built_arenaNext, ← Nat.mul_assoc, Nat.add_mul_mod_self_right, halign]
  exact {
    platform := h.platform
    memory := h.memory
    arena := ⟨hnext, Nat.le_add_right_of_le hbase, hr.2.1⟩
    unconfigured := nofun
    constructed := fun _ => hc
    palette := ⟨hoff, hon⟩
    background := fun hb => by
      cases bg with
      | none => rfl
      | some a => cases hb }

theorem State.Sound.atLine {s : State} (h : s.Sound) (hm : s.mode = .ready) (line : Dim) : (s.atLine line).Sound := by
  obtain ⟨a, f, e⟩ := s.atLine_eq line
  rw [e]
  exact h.of_geometry_eq hm rfl (by simp [hm]) h.memory h.palette h.background

/-- A write that keeps memory in canonical form. -/
theorem State.Sound.withMem {s : State} (h : s.Sound) {m : Memory} (hm : m.wf = true) : { s with mem := m }.Sound :=
  { h with
    memory := hm
    unconfigured := fun hu => { h.unconfigured hu with }
    constructed := fun hc => { h.constructed hc with } }

/-- The copier's destination is inside the address space, or nothing is copied. -/
theorem State.wf_copyFrontToBack {s : State} (h : s.mem.wf = true) (hp : s.planeWords = 0 ∨ s.planesValid = true) :
    (copyWords s.mem s.frontBase.toNat s.backBase.toNat s.planeWords).wf = true := by
  rcases hp with h0 | hv
  · simpa [h0, copyWords, wordsFrom, Memory.writeRun] using h
  · obtain ⟨_, hback, _⟩ := State.planesValid_iff.mp hv
    exact wf_copyWords h hback

theorem State.TurnsAway.sound {s t : State} (h : s.TurnsAway t) (hs : s.Sound) : t.Sound := by
  cases h with
  | rejected st hm => exact hs.of_bare_eq rfl
  | silent hm => exact hs.of_bare_eq rfl

theorem State.Executes.sound {s t : State} {i : Instr} (h : s.Executes i t) (hs : s.Sound) : t.Sound := by
  obtain ⟨hp0, hp1⟩ := hs.palette
  have configured (hm : s.mode = .ready) : s.mode ≠ .unconfigured := by simp [hm]
  cases h with
  | turnedAway h => exact h.sound hs
  | constructed _ _ hw hr => exact hs.built hw hr
  | starved => exact hs.of_bare_eq rfl
  | destroy => exact hs.clearBlock.of_bare_eq rfl
  | rasterizeOutside hm => exact (hs.atLine hm _).of_bare_eq rfl
  | @rasterizeRow _ line _ _ hm _ ha =>
    have hl := hs.atLine hm line
    exact (hl.withMem (State.wf_expandRow hl.memory ha)).of_bare_eq rfl
  | pendFlip hm => exact hs.of_geometry_eq hm rfl (configured hm) hs.memory hs.palette hs.background
  | flipNow hm => exact hs.of_geometry_eq hm rfl (configured hm) hs.memory hs.palette hs.background
  | getBackBuffer | backGranted | planeIsBitAddressable | readReg => exact hs.of_bare_eq rfl
  | backHalts hm => exact hs.of_geometry_eq hm rfl nofun hs.memory hs.palette hs.background
  | copyToBack _ hp => exact (hs.withMem (State.wf_copyFrontToBack hs.memory hp)).of_bare_eq rfl
  | setFgColor hm hc => exact hs.of_geometry_eq hm rfl (configured hm) hs.memory ⟨hp0, hc⟩ hs.background
  | setBgColor hm hc => exact hs.of_geometry_eq hm rfl (configured hm) hs.memory ⟨hc, hp1⟩ hs.background
  | setBackground hm => exact hs.of_geometry_eq hm rfl (configured hm) hs.memory hs.palette nofun
  | clrBackground hm => exact hs.of_geometry_eq hm rfl (configured hm) hs.memory hs.palette fun _ => rfl

theorem State.Sound.execCommand {s t : State} {cmd : Command} (hs : s.Sound) (h : execCommand cmd s = .next t) :
    t.Sound := by
  rcases executes_of_execCommand h with ⟨i, _, hx⟩ | ha
  · exact hx.sound hs
  · exact ha.sound hs

theorem State.bare_answer (s : State) (p : Port) (cmd : Command) : (s.answer p cmd).bare = s.bare := by
  obtain ⟨v, hv⟩ := s.answer_eq_setPort p cmd
  rw [hv]
  cases p <;> rfl

theorem State.Handles.sound {s t : State} {e : Event} (h : s.Handles e t) (hs : s.Sound) : t.Sound := by
  cases h with
  | passedOver => exact hs
  | taken hr hp hu => exact (hs.execCommand hu).of_bare_eq (State.bare_answer _ _ _)
  | wrote ha => exact hs.withMem (Memory.wf_writeNat _ hs.memory ha)
  | fetched => exact hs.of_bare_eq rfl
  | @resetLevel asserted =>
    cases asserted with
    | false => exact hs.of_bare_eq rfl
    | true => exact hs.clearBlock.of_bare_eq rfl

/-! ### Who is stuck (00_scope.md R10; 60_exceptions.md R202) -/

/-- A command leaves its requester with a response, at a block not halted that stops nobody it did not stop before; or
without one, at a block that stops requesters. -/
def State.AnswersOrStops (s t : State) : Prop :=
  (∃ r, t.response = some r ∧ t.mode ≠ .halted ∧ (s.Stops → t.Stops)) ∨ (t.response = none ∧ t.Stops)

/-- A command that needs READY and answers: before it no requester was stuck. -/
theorem State.answersOrStops_of_ready {s t : State} {r : Response} (hm : s.mode = .ready) (hr : t.response = some r)
    (ht : t.mode ≠ .halted) : s.AnswersOrStops t :=
  .inl ⟨r, hr, ht, fun h => by simp [State.Stops, hm] at h⟩

theorem State.TurnsAway.answersOrStops {s t : State} (h : s.TurnsAway t) : s.AnswersOrStops t := by
  cases h with
  | rejected st hm => exact .inl ⟨_, rfl, hm, id⟩
  | silent hm => exact .inr ⟨rfl, .inl hm⟩

theorem State.Executes.answersOrStops {s t : State} {i : Instr} (h : s.Executes i t) : s.AnswersOrStops t := by
  cases h with
  | turnedAway h => exact h.answersOrStops
  | constructed _ hm _ hr => exact .inl ⟨_, rfl, nofun, fun h => by simp [State.Stops, hm, hr.1] at h⟩
  | starved _ hm => exact .inr ⟨rfl, .inr ⟨hm, rfl⟩⟩
  | destroy hm => exact State.answersOrStops_of_ready hm rfl nofun
  | rasterizeOutside hm | rasterizeRow hm => exact State.answersOrStops_of_ready hm rfl (by simp [hm])
  | pendFlip hm | flipNow hm | getBackBuffer hm | backGranted hm | copyToBack hm | planeIsBitAddressable hm
  | setFgColor hm | setBgColor hm | setBackground hm | clrBackground hm =>
    exact State.answersOrStops_of_ready hm rfl (by simp [hm])
  | backHalts => exact .inr ⟨rfl, .inl rfl⟩
  | readReg hm => exact .inl ⟨_, rfl, hm, id⟩

theorem answersOrStops_of_execCommand {s t : State} {cmd : Command} (h : execCommand cmd s = .next t) :
    s.AnswersOrStops t := by
  rcases executes_of_execCommand h with ⟨i, _, hx⟩ | ha
  · exact hx.answersOrStops
  · exact ha.answersOrStops

theorem State.portStuck_of_keepsOutside {s t : State} (h : s.KeepsOutside t) (p : Port) : t.portStuck p = s.portStuck p := by
  obtain ⟨_, hT, hD, _⟩ := h
  cases p <;> simp [State.portStuck, State.port, hT, hD]

/-- The requester of a command taken is stuck exactly where DBRC stops. -/
theorem State.PortsSound.taken {s u : State} {p : Port} {cmd : Command} (hs : s.PortsSound)
    (hr : s.resetAsserted = false) (hu : execCommand cmd s = .next u) : (u.answer p cmd).PortsSound := by
  obtain ⟨_, hout⟩ := execCommand_arena hu
  obtain ⟨_, _, _, hreset, _⟩ := id hout
  have hreleased : ¬ (u.answer p cmd).resetAsserted = true := by simp [hreset, hr]
  have hstops : (u.answer p cmd).Stops ↔ u.Stops := by simp [State.Stops]
  rcases answersOrStops_of_execCommand hu with ⟨r, hresp, hmode, hkeep⟩ | ⟨hresp, hstop⟩
  · have hstuck q : (u.answer p cmd).portStuck q = s.portStuck q := by
      rw [State.answer_portStuck_of_response hresp, State.portStuck_of_keepsOutside hout]
    exact {
      resetHeld := fun h => absurd h hreleased
      waiting := fun h => hstops.mpr (hkeep (hs.waiting (by simpa [hstuck] using h)))
      halted := fun h => absurd (by simpa using h) hmode }
  · have hstuck : (u.answer p cmd).portStuck p = true := State.answer_portStuck_of_none hresp p cmd
    exact {
      resetHeld := fun h => absurd h hreleased
      waiting := fun _ => hstops.mpr hstop
      halted := fun _ => by
        cases p with
        | T => exact .inl hstuck
        | D => exact .inr hstuck }

/-- Reset frees both requesters, and its release stops nobody. -/
theorem State.PortsSound.resetLevel {s : State} (hs : s.PortsSound) (asserted : Bool) :
    (setResetLine asserted s).PortsSound := by
  cases asserted with
  | false => exact ⟨nofun, hs.waiting, hs.halted⟩
  | true => exact ⟨fun _ => rfl, fun h => by simp [setResetLine, State.portStuck, State.port] at h, nofun⟩

theorem State.Handles.portsSound {s t : State} {e : Event} (h : s.Handles e t) (hs : s.PortsSound) :
    t.PortsSound := by
  cases h with
  | passedOver => exact hs
  | taken hr hp hu => exact hs.taken hr hu
  | wrote | fetched => exact ⟨hs.resetHeld, hs.waiting, hs.halted⟩
  | resetLevel => exact hs.resetLevel _

/-! ### Every step, and the state it starts from -/

theorem State.Inv.step {s t : State} (h : s.Inv) (ht : step s = .next t) : t.Inv := by
  rcases handles_of_step ht with rfl | ⟨e, rest, _, he⟩
  · exact h
  · obtain ⟨hs, hp⟩ := State.inv_iff.mp h
    have hs' : (s.advance rest).Sound := hs.of_bare_eq rfl
    have hp' : (s.advance rest).PortsSound := ⟨hp.resetHeld, hp.waiting, hp.halted⟩
    exact State.inv_iff.mpr ⟨he.sound hs', he.portsSound hp'⟩

theorem State.inv_resetOn {p : Platform} (hp : p.Valid) : (State.resetOn p).Inv := by
  obtain ⟨_, _, _, _, _, _, halign, hbase, _⟩ := id hp
  exact {
    platform := hp
    memory := rfl
    arena := ⟨halign, Nat.le_refl _, hbase⟩
    unconfigured := fun _ => State.cleared_resetOn p
    constructed := fun hm => absurd rfl hm
    palette := ⟨PixelWidth.fits_zero _, PixelWidth.fits_zero _⟩
    background := fun _ => rfl
    resetHeld := nofun
    waiting := fun h => by simp [State.resetOn, PortState.idle, State.portStuck, State.port] at h
    halted := nofun }

end Sys2Proof.Machine

namespace Sys2Proof

/-- The opaque parameters are shaped so that 00_scope.md R7 holds whatever they are. -/
theorem Config.platform_valid : Config.platform.Valid := by
  have hpal : Config.palOff ≠ if Config.palOnChoice = Config.palOff then ~~~Config.palOff else Config.palOnChoice := by
    split
    · exact BitVec.ne_not_self (by decide)
    · exact Ne.symm ‹_›
  have halign : min (Config.arenaBaseWord * Config.wordBytes) Config.addressSpace % Config.wordBytes = 0 := by
    rcases Nat.le_total (Config.arenaBaseWord * Config.wordBytes) Config.addressSpace with h | h
    · rw [Nat.min_eq_left h, Nat.mul_mod_left]
    · rw [Nat.min_eq_right h]
      decide
  exact ⟨hpal, PixelWidth.fits_w32 _, PixelWidth.fits_w32 _, Nat.le_add_right _ _, Nat.le_add_right _ _,
    Nat.le_add_right _ _, halign, Nat.le_min.mpr ⟨Nat.le_add_right _ _, Nat.min_le_right _ _⟩, Nat.min_le_right _ _⟩

end Sys2Proof

namespace Sys2Proof.Proofs

open Sys2Proof.Machine

/-- Settles O54: each half of the invariant is kept by every event a step handles. -/
theorem everyStepKeepsTheInvariant : Obligations.EveryStepKeepsTheInvariant :=
  fun _ _ h ht => h.step ht

/-- Settles O22: of the ways an instruction ends, only a construction leaves UNCONFIGURED for READY. -/
theorem constructedPlanesAreFreshAndApart : Obligations.ConstructedPlanesAreFreshAndApart := by
  intro s t i hinv hm h ht
  obtain ⟨width, height, topLine, bg, hw, hr, rfl⟩ := (executes_of_exec h).built_of_ready hm ht
  obtain ⟨halign, hbase, _⟩ := hinv.arena
  obtain ⟨h0, h1⟩ := State.built_planeBases (topLine := topLine) (bg := bg) hr
  refine ⟨State.built_constructed halign hbase hw hr, h0.ge, ?_, ?_⟩
  · rw [h1]
    exact Nat.le_add_right _ _
  · rw [State.built_planeBytes, State.built_arenaNext]

/-- Settles O50, by cases on the ways the instruction can end. -/
theorem eachVariableHasItsWriters : Obligations.EachVariableHasItsWriters :=
  fun _ _ _ h => (executes_of_exec h).writesItsOwn

/-- Settles O52: of all events only a construction moves ARENA_NEXT, upwards. -/
theorem arenaIsNeverRewound : Obligations.ArenaIsNeverRewound := by
  intro s t h
  rcases handles_of_step h with rfl | ⟨e, rest, _, he⟩
  · exact ⟨Nat.le_refl _, rfl⟩
  · exact he.arena

/-- Settles O16: a reset clears the block, and the machine starts with a cleared one. -/
theorem resetGivesTheResetValues : Obligations.ResetGivesTheResetValues := by
  refine ⟨fun s rest hp => ?_, fun p => ⟨rfl, State.cleared_resetOn p, rfl⟩⟩
  have hstep : step s = .next (setResetLine true (s.advance rest)) := stepEvent_cons hp
  exact ⟨_, hstep, rfl, State.cleared_setResetLine _, rfl, rfl, rfl⟩

/-- Settles O53: the arena of valid parameters starts empty, and those of `State.reset` are valid. -/
theorem resetStateMeetsTheInvariant : Obligations.ResetStateMeetsTheInvariant :=
  ⟨fun _ => State.inv_resetOn, State.inv_resetOn Config.platform_valid⟩

end Sys2Proof.Proofs

/-! The statements from 20_memory.md: the byte order (R51), who accesses memory (R58, R62) and which bytes a row is made from
(R63). The first part says what an access by an outside agent answers, the second what a drawn row depends on. -/

namespace Sys2Proof.Machine

/-! ### Byte order (R51) -/

/-- `MemRead` as the sum of R51. -/
theorem Memory.readNat_eq_sum (m : Memory) (a n : Nat) :
    m.readNat a n = ((List.range n).map fun j => (m.read (a + j)).toNat * 256 ^ j).sum := by
  induction n generalizing a with
  | zero => rfl
  | succ n ih =>
    have shifted (j : Nat) : (m.read (a + (j + 1))).toNat * 256 ^ (j + 1) =
        256 * ((m.read (a + 1 + j)).toNat * 256 ^ j) := by
      rw [Nat.pow_succ', Nat.mul_left_comm, Nat.add_assoc, Nat.add_comm 1 j]
    calc m.readNat a (n + 1)
        = (m.read a).toNat + 256 * m.readNat (a + 1) n := rfl
      _ = _ := by
        rw [ih, List.range_succ_eq_map, ← List.sum_map_mul_left]
        simp [Function.comp_def, shifted]

/-- `MemWrite` stores `v[8j+7:8j]` at `a + j`. -/
theorem Memory.toNat_read_writeNat (m : Memory) {a n v j : Nat} (h : j < n) :
    ((m.writeNat a n v).read (a + j)).toNat = v / 2 ^ (8 * j) % 256 := by
  rw [Memory.read_writeNat, if_pos (by omega), Nat.add_sub_cancel_left, BitVec.toNat_ofNat, Nat.pow_mul]

/-! ### Accesses by agents outside DBRC (R62 (b)) -/

section
variable {s : State} {agent : Agent} {a n : Nat}

theorem agentWrite_inside (v : Nat) (hs : s.agentStuck agent = false) (ha : a + n ≤ Config.addressSpace) :
    agentWrite agent a n v s = .next { s with mem := s.mem.writeNat a n v } := by
  simp [agentWrite, hs, leavesSpace_eq_false.mpr ha]

theorem agentRead_inside (hs : s.agentStuck agent = false) (ha : a + n ≤ Config.addressSpace) :
    agentRead agent a n s = .next { s with lastRead := some (s.mem.readNat a n) } := by
  simp [agentRead, hs, leavesSpace_eq_false.mpr ha]

theorem agentWrite_outside (v : Nat) (hs : s.agentStuck agent = false) (ha : Config.addressSpace < a + n) :
    agentWrite agent a n v s = .fault (.outsideAddressSpace agent) := by
  simp [agentWrite, hs, leavesSpace, ha]

theorem agentRead_outside (hs : s.agentStuck agent = false) (ha : Config.addressSpace < a + n) :
    agentRead agent a n s = .fault (.outsideAddressSpace agent) := by
  simp [agentRead, hs, leavesSpace, ha]

end

/-- A step in a state given by its next event handles that event. -/
theorem State.step_advance_cons (s : State) (e : Event) (rest : List Event) :
    step (s.advance (e :: rest)) = handle e (s.advance rest) :=
  stepEvent_cons rfl

/-! ### Which commands leave memory alone (R58) -/

theorem State.TurnsAway.mem_eq {s t : State} (h : s.TurnsAway t) : t.mem = s.mem := by
  cases h <;> rfl

/-- Of the ways a command ends, only a drawn row and a copied plane put another memory in the state. -/
theorem State.Executes.mem_eq {s t : State} {i : Instr} (h : s.Executes i t)
    (hr : ∀ cpp line dest, i ≠ .rasterize cpp line dest) (hc : i ≠ .copyToBack) : t.mem = s.mem := by
  cases h with
  | turnedAway h => exact h.mem_eq
  | rasterizeOutside | rasterizeRow => exact absurd rfl (hr _ _ _)
  | copyToBack => exact absurd rfl hc
  | constructed | starved | destroy | pendFlip | flipNow | getBackBuffer | backGranted | backHalts
  | planeIsBitAddressable | setFgColor | setBgColor | setBackground | clrBackground | readReg => rfl

/-! ### What a drawn row depends on (R58, R63) -/

/-- The two memories hold the same bytes in `[a, a + n)`. -/
def Memory.AgreesOn (m m' : Memory) (a n : Nat) : Prop := ∀ b, a ≤ b → b < a + n → m'.read b = m.read b

/-- Memories that agree on a table of `count` entries of `k` bytes agree on entry `i`. -/
theorem Memory.AgreesOn.entry {m m' : Memory} {a count k i : Nat} (h : m.AgreesOn m' a (count * k)) (hi : i < count) :
    m.AgreesOn m' (a + i * k) k := by
  have hend : i * k + k ≤ count * k := by
    rw [← Nat.succ_mul]
    exact Nat.mul_le_mul_right k hi
  intro b h1 h2
  exact h b (by omega) (by omega)

theorem Memory.AgreesOn.readWord_eq {m m' : Memory} {a : Nat} (h : m.AgreesOn m' a Config.wordBytes) :
    m'.readWord a = m.readWord a := by
  rw [Memory.readWord, Memory.readWord, Memory.readNat_congr h]

theorem Memory.AgreesOn.readPixel_eq {m m' : Memory} {w : PixelWidth} {a : Nat} (h : m.AgreesOn m' a w.bytes) :
    m'.readPixel w a = m.readPixel w a := by
  rw [Memory.readPixel, Memory.readPixel, Memory.readNat_congr h]

/-- A pixel read back from a run depends on the value written there alone, also where it has more than PIXW bits. -/
theorem Memory.readPixel_writeRun_congr (m m' : Memory) {w : PixelWidth} {a i : Nat} {vs vs' : List Pixel}
    (h : i < vs.length) (h' : i < vs'.length) (he : vs'[i] = vs[i]) :
    (m'.writeRun w.bytes a vs').readPixel w (a + i * w.bytes) =
      (m.writeRun w.bytes a vs).readPixel w (a + i * w.bytes) := by
  rw [Memory.readPixel, Memory.readPixel, Memory.readNat_writeRun m h, Memory.readNat_writeRun m' h', he]

/-- A packed pixel is a bit of a word inside its row of `words` words. -/
theorem packedPixel_congr {m m' : Memory} {src words x : Nat} (order : BitOrder)
    (h : m.AgreesOn m' src (words * Config.wordBytes)) (hx : x < words * Config.bpw) :
    packedPixel order m' src x = packedPixel order m src x := by
  have hword : x / Config.bpw < words := Nat.div_lt_of_lt_mul (by rwa [Nat.mul_comm])
  rw [packedPixel, packedPixel, (h.entry hword).readWord_eq]

/-- The state with another memory. -/
def State.withMem (s : State) (m : Memory) : State := { s with mem := m }

/-- The value step 4b of RASTERIZE gives pixel `x` of row `row` (41_rasterize.md R115). -/
def State.drawnPixel (s : State) (row x : Nat) : Pixel :=
  if s.bgPresent then
    overlayPixel s.platform s.mem (s.sourceRow row) s.palette0 s.palette1 (s.backgroundRow row) x
  else plainPixel s.platform.bitOrder s.mem (s.sourceRow row) s.palette0 s.palette1 x

theorem State.expandRow_eq_writeRun (s : State) (row dest : Nat) :
    s.expandRow row dest = s.mem.writeRun s.pixBytes dest ((List.range s.rowPixels).map (s.drawnPixel row)) := by
  by_cases hb : s.bgPresent = true
  · have hd : s.drawnPixel row =
        overlayPixel s.platform s.mem (s.sourceRow row) s.palette0 s.palette1 (s.backgroundRow row) :=
      funext fun x => if_pos hb
    rw [State.expandRow_overlay hb, hd]
    rfl
  · have hd : s.drawnPixel row = plainPixel s.platform.bitOrder s.mem (s.sourceRow row) s.palette0 s.palette1 :=
      funext fun x => if_neg hb
    rw [State.expandRow_plain (by simpa using hb), hd]
    rfl

/-- The value of a pixel comes from the plane row and, under overlay, the background row. -/
theorem State.drawnPixel_congr {s : State} {m : Memory} {row x : Nat}
    (hsrc : s.mem.AgreesOn m (s.sourceRow row) s.rowBytes)
    (hbg : s.bgPresent = true → s.mem.AgreesOn m (s.backgroundRow row) s.pixelRowBytes) (hx : x < s.rowPixels) :
    (s.withMem m).drawnPixel row x = s.drawnPixel row x := by
  have hbit := packedPixel_congr s.platform.bitOrder hsrc hx
  by_cases hb : s.bgPresent = true
  · have hpix : m.readPixel s.platform.pixelWidth (s.backgroundRow row + x * s.platform.pixelWidth.bytes) =
        s.mem.readPixel s.platform.pixelWidth (s.backgroundRow row + x * s.platform.pixelWidth.bytes) :=
      ((hbg hb).entry hx).readPixel_eq
    calc (s.withMem m).drawnPixel row x
        = overlayPixel s.platform m (s.sourceRow row) s.palette0 s.palette1 (s.backgroundRow row) x := if_pos hb
      _ = overlayPixel s.platform s.mem (s.sourceRow row) s.palette0 s.palette1 (s.backgroundRow row) x := by
        rw [overlayPixel, overlayPixel, hbit, hpix]
      _ = s.drawnPixel row x := (if_pos hb).symm
  · calc (s.withMem m).drawnPixel row x
        = plainPixel s.platform.bitOrder m (s.sourceRow row) s.palette0 s.palette1 x := if_neg hb
      _ = plainPixel s.platform.bitOrder s.mem (s.sourceRow row) s.palette0 s.palette1 x := by
        rw [plainPixel, plainPixel, hbit]
      _ = s.drawnPixel row x := (if_neg hb).symm

/-- The row written depends on no other memory. -/
theorem State.readPixel_expandRow_congr {s : State} {m : Memory} {row dest x : Nat}
    (hsrc : s.mem.AgreesOn m (s.sourceRow row) s.rowBytes)
    (hbg : s.bgPresent = true → s.mem.AgreesOn m (s.backgroundRow row) s.pixelRowBytes) (hx : x < s.rowPixels) :
    ((s.withMem m).expandRow row dest).readPixel s.platform.pixelWidth (dest + x * s.pixBytes) =
      (s.expandRow row dest).readPixel s.platform.pixelWidth (dest + x * s.pixBytes) := by
  have hpixel : (s.withMem m).drawnPixel row x = s.drawnPixel row x := State.drawnPixel_congr hsrc hbg hx
  have hx' : x < (s.withMem m).rowPixels := hx
  rw [State.expandRow_eq_writeRun, State.expandRow_eq_writeRun]
  exact Memory.readPixel_writeRun_congr _ _ (by simpa using hx) (by simpa using hx') (by simpa using hpixel)

/-- A plane row ends where the next one begins. -/
theorem State.sourceRow_add_rowBytes (s : State) (row : Nat) : s.sourceRow row + s.rowBytes = s.sourceRow (row + 1) := by
  rw [State.sourceRow, State.sourceRow, State.rowBytes, Nat.succ_mul, Nat.add_mul, Nat.add_assoc]

/-- A background row ends where the next one begins. -/
theorem State.backgroundRow_add_pixelRowBytes (s : State) (row : Nat) :
    s.backgroundRow row + s.pixelRowBytes = s.backgroundRow (row + 1) := by
  rw [State.backgroundRow, State.backgroundRow, State.pixelRowBytes, State.rowPixels, Nat.succ_mul, Nat.add_mul,
    Nat.add_mul, Nat.add_assoc]

/-! ### The row a RASTERIZE draws (41_rasterize.md R111, R112) -/

theorem State.localRow_of_line {s : State} {line : Dim} {row : Nat} (h : line.toNat = s.topLine.toNat + row) :
    s.localRow line = row := by
  unfold State.localRow
  omega

/-- The consumption does not read memory. -/
theorem State.atLine_withMem (s : State) (m : Memory) (line : Dim) :
    (s.withMem m).atLine line = (s.atLine line).withMem m := by
  by_cases h : s.localRow line = 0
  · have h' : (s.withMem m).localRow line = 0 := h
    rw [State.atLine, State.atLine, if_pos h, if_pos h']
    rfl
  · have h' : (s.withMem m).localRow line ≠ 0 := h
    rw [State.atLine, State.atLine, if_neg h, if_neg h']

/-- The consumption swaps the planes where a flip is pending. -/
theorem State.consumeFlip_frontBase (s : State) :
    s.consumeFlip.frontBase = if s.flipPending then s.backBase else s.frontBase := by
  cases hf : s.flipPending with
  | false => simp [State.consumeFlip, State.frontBase, State.planeBase, hf]
  | true => simp [State.consumeFlip, State.frontBase, State.backBase, State.planeBase, hf]

/-- The front plane of the row to draw: at local row 0 a pending flip has been consumed before it is read. -/
theorem State.atLine_frontBase {s : State} {line : Dim} {row : Nat} (h : s.localRow line = row) :
    (s.atLine line).frontBase = if row = 0 ∧ s.flipPending = true then s.backBase else s.frontBase := by
  by_cases hr : row = 0
  · simp [State.atLine, h, hr, State.consumeFlip_frontBase]
  · simp [State.atLine, h, hr]

theorem State.atLine_sourceRow {s : State} {line : Dim} {row : Nat} (h : s.localRow line = row) (r : Nat) :
    (s.atLine line).sourceRow r =
      (if row = 0 ∧ s.flipPending = true then s.backBase else s.frontBase).toNat + r * s.wpl.toNat * 4 := by
  rw [← State.atLine_frontBase h]
  obtain ⟨a, f, e⟩ := s.atLine_eq line
  rw [e]
  rfl

theorem State.atLine_backgroundRow (s : State) (line : Dim) (r : Nat) :
    (s.atLine line).backgroundRow r = s.bgBase.toNat + r * s.wpl.toNat * 32 * s.pixBytes := by
  obtain ⟨a, f, e⟩ := s.atLine_eq line
  rw [e]
  rfl

@[simp] theorem State.atLine_mem (s : State) (line : Dim) : (s.atLine line).mem = s.mem := by
  obtain ⟨a, f, e⟩ := s.atLine_eq line
  rw [e]

@[simp] theorem State.atLine_bgPresent (s : State) (line : Dim) : (s.atLine line).bgPresent = s.bgPresent := by
  obtain ⟨a, f, e⟩ := s.atLine_eq line
  rw [e]

@[simp] theorem State.atLine_platform (s : State) (line : Dim) : (s.atLine line).platform = s.platform := by
  obtain ⟨a, f, e⟩ := s.atLine_eq line
  rw [e]

@[simp] theorem State.atLine_pixBytes (s : State) (line : Dim) : (s.atLine line).pixBytes = s.pixBytes := by
  simp [State.pixBytes]

@[simp] theorem State.atLine_rowPixels (s : State) (line : Dim) : (s.atLine line).rowPixels = s.rowPixels := by
  obtain ⟨a, f, e⟩ := s.atLine_eq line
  rw [e]
  rfl

theorem State.atLine_rowInRange {s : State} {line : Dim} {row : Nat} (h : s.localRow line = row)
    (hh : row < s.height.toNat) : (s.atLine line).rowInRange line = some row := by
  obtain ⟨a, f, e⟩ := s.atLine_eq line
  rw [e]
  exact State.rowInRange_eq_some.mpr ⟨h, hh⟩

/-- A RASTERIZE in range that completes leaves the memory the expander leaves. -/
theorem mem_of_exec_rasterize {s t : State} {cpp : Cpp} {line : Dim} {dest : Addr} {row : Nat} (hm : s.mode = .ready)
    (hl : s.localRow line = row) (hh : row < s.height.toNat) (h : exec (.rasterize cpp line dest) s = .next t) :
    t.mem = (s.atLine line).expandRow row dest.toNat := by
  have hexec : exec (.rasterize cpp line dest) s = (s.atLine line).produceRow cpp line dest := State.whenReady_ready hm _
  rw [hexec, State.produceRow, State.atLine_rowInRange hl hh] at h
  dsimp only at h
  split at h
  · rename_i u hu
    obtain ⟨_, rfl⟩ := State.rasterRow_ok hu
    cases h
    rfl
  · cases h

end Sys2Proof.Machine

namespace Sys2Proof.Proofs

open Sys2Proof.Machine

/-- Settles O48: the sum by induction over the bytes, the stored bytes from `Memory.read_writeNat`. -/
theorem memoryIsLittleEndian : Obligations.MemoryIsLittleEndian :=
  fun m a n _ => ⟨m.readNat_eq_sum a n, fun _ => m.toNat_read_writeNat, fun _ => m.read_writeNat_outside⟩

/-- Settles O49: no other way an instruction ends puts another memory in the state. -/
theorem onlyTwoCommandsWriteMemory : Obligations.OnlyTwoCommandsWriteMemory := by
  intro i s t hr hc h b
  rw [(executes_of_exec h).mem_eq hr hc]

/-- Settles O28: both memories give the expander's run the same pixel `x`, because it reads a bit of the plane row and a
pixel of the background row. -/
theorem rasterizeReadsOnlyItsRows : Obligations.RasterizeReadsOnlyItsRows := by
  intro s t u m cpp line dest row x hm hline hheight hsrc hbg ht hu hx
  have hlocal : s.localRow line = row := State.localRow_of_line hline
  have ht' : t.mem = (s.atLine line).expandRow row dest.toNat := mem_of_exec_rasterize hm hlocal hheight ht
  have hu' : u.mem = ((s.atLine line).withMem m).expandRow row dest.toNat := by
    rw [← State.atLine_withMem]
    exact mem_of_exec_rasterize (s := s.withMem m) hm hlocal hheight hu
  have hsrc' : (s.atLine line).mem.AgreesOn m ((s.atLine line).sourceRow row) (s.atLine line).rowBytes := by
    intro b hlo hhi
    rw [State.sourceRow_add_rowBytes, State.atLine_sourceRow hlocal] at hhi
    rw [State.atLine_sourceRow hlocal] at hlo
    rw [State.atLine_mem]
    exact hsrc b hlo hhi
  have hbg' : (s.atLine line).bgPresent = true →
      (s.atLine line).mem.AgreesOn m ((s.atLine line).backgroundRow row) (s.atLine line).pixelRowBytes := by
    intro hb b hlo hhi
    rw [State.backgroundRow_add_pixelRowBytes, State.atLine_backgroundRow] at hhi
    rw [State.atLine_backgroundRow] at hlo
    rw [State.atLine_mem]
    exact hbg (by simpa using hb) b hlo hhi
  have hx' : x < (s.atLine line).rowPixels := by
    rw [State.atLine_rowPixels]
    exact hx
  have hsame := State.readPixel_expandRow_congr (dest := dest.toNat) hsrc' hbg' hx'
  simpa [ht', hu'] using hsame

/-- Settles O15: the step handles the access, which is inside the address space or a fault. -/
theorem outsideAgentsAccessMemory : Obligations.OutsideAgentsAccessMemory := by
  intro s agent a n v rest hs
  have hs' : (s.advance rest).agentStuck agent = false := by simpa using hs
  constructor
  · intro ha
    have hwrite := (s.step_advance_cons (.write agent a n v) rest).trans (agentWrite_inside v hs' ha)
    have hread := (s.step_advance_cons (.read agent a n) rest).trans (agentRead_inside hs' ha)
    exact ⟨⟨_, hwrite, rfl, s.mem.readNat_writeNat_same a n v, fun _ => s.mem.read_writeNat_outside⟩, hread⟩
  · intro ha
    exact ⟨(s.step_advance_cons (.write agent a n v) rest).trans (agentWrite_outside v hs' ha),
      (s.step_advance_cons (.read agent a n) rest).trans (agentRead_outside hs' ha)⟩

end Sys2Proof.Proofs

/-! The statements from 30_encoding.md: the encoder and the decoder are each other's inverse (R82, R85), the decoder reads
the rows of the opcode table (R84), a response on the wires (R86, R87), the port that presents a command (R80) and what a
halted block does with one (R89 (1)). -/

namespace Sys2Proof

/-! ### Decoding an encoding (R82) -/

section
variable (o s : BitVec 8) (a b d : BitVec 32)

/-- A packed command has `RSV0 = 0`, so the decoder looks at its fields. -/
@[simp] theorem decode_pack (w : PixelWidth) :
    decode w (Command.pack o s a b d) = decodeFields w (Command.pack o s a b d) := by
  simp [decode]

@[simp] theorem decodeN_pack (i : Instr) : decodeN (Command.pack o 0#8 0#32 0#32 0#32) i = .ok i := by
  simp [decodeN, acceptIf]

@[simp] theorem decodeI_pack (width height topLine : Dim) :
    decodeI (Command.pack o 0#8 (height ++ width) (lowWord topLine) 0#32) = .ok (.init width height topLine) := by
  simp [decodeI, acceptIf]

@[simp] theorem decodeI_pack_bg (width height topLine : Dim) (bgAddr : Addr) :
    decodeI (Command.pack o 1#8 (height ++ width) (lowWord topLine) bgAddr) =
      .ok (.initBg width height topLine bgAddr) := by
  simp [decodeI, acceptIf]

@[simp] theorem decodeR_pack (cpp : Cpp) (line : Dim) (dest : Addr) :
    decodeR (Command.pack o 0#8 cpp (lowWord line) dest) = .ok (.rasterize cpp line dest) := by
  simp [decodeR, acceptIf]

@[simp] theorem decodeSelector_pack (sel : Selector) :
    decodeSelector (Command.pack o sel.toSub 0#32 0#32 0#32) = .ok (.planeIsBitAddressable sel) := by
  simp [decodeSelector, acceptIf]

theorem decodeC_pack {w : PixelWidth} {color : Pixel} (h : w.fits color = true) (f : Pixel → Instr) :
    decodeC w (Command.pack o 0#8 color 0#32 0#32) f = .ok (f color) := by
  simp [decodeC, acceptIf, h]

@[simp] theorem decodeBackground_pack_set (addr : Addr) :
    decodeBackground (Command.pack o 1#8 0#32 0#32 addr) = .ok (.setBackground addr) := by
  simp [decodeBackground, acceptIf]

@[simp] theorem decodeBackground_pack_clr :
    decodeBackground (Command.pack o 0#8 0#32 0#32 0#32) = .ok .clrBackground := by
  simp [decodeBackground]

theorem decodeReadReg_pack {reg : BitVec 8} (h : reg ≤ lastReg) :
    decodeReadReg (Command.pack o reg 0#32 0#32 0#32) = .ok (.readReg reg) := by
  rw [decodeReadReg, sub_pack, if_pos h]
  simp [acceptIf]

end

/-- The decoder reads a well-formed instruction back from its encoding: `OPC` selects the format, whose fields give the
operands. -/
theorem decode_encode {w : PixelWidth} {i : Instr} (h : i.WellFormed w) : decode w (encode i) = .ok i := by
  cases i with
  | setFgColor color | setBgColor color => simp [encode, decodeFields, decodeC_pack _ h]
  | readReg reg => simp [encode, decodeFields, decodeReadReg_pack _ (of_decide_eq_true h)]
  | init | initBg | destroy | rasterize | pendFlip | flipNow | getBackBuffer | makeBackGraphics | copyToBack
  | planeIsBitAddressable | setBackground | clrBackground => simp [encode, decodeFields]

/-! ### Encoding what was decoded (R82, R85) -/

section
variable {w : PixelWidth} {c : Command} {o : BitVec 8} {j : Instr}

theorem encode_init_of_fields (h0 : c.rsv0 = 0) (ho : c.opc = 0x01) (hs : c.sub = 0) (h2 : highHalf c.w2 = 0)
    (h3 : c.w3 = 0) : encode (.init (lowHalf c.w1) (highHalf c.w1) (lowHalf c.w2)) = c :=
  pack_of_fields h0 ho hs (append_halves c.w1).symm (lowWord_lowHalf h2).symm h3

theorem encode_initBg_of_fields (h0 : c.rsv0 = 0) (ho : c.opc = 0x01) (hs : c.sub = 1) (h2 : highHalf c.w2 = 0) :
    encode (.initBg (lowHalf c.w1) (highHalf c.w1) (lowHalf c.w2) c.w3) = c :=
  pack_of_fields h0 ho hs (append_halves c.w1).symm (lowWord_lowHalf h2).symm rfl

theorem encode_rasterize_of_fields (h0 : c.rsv0 = 0) (ho : c.opc = 0x10) (hs : c.sub = 0) (h2 : highHalf c.w2 = 0) :
    encode (.rasterize c.w1 (lowHalf c.w2) c.w3) = c :=
  pack_of_fields h0 ho hs rfl (lowWord_lowHalf h2).symm rfl

/-- A command accepted in format `N` is the encoding of the one instruction it stands for. -/
theorem encode_of_decodeN {i : Instr} (he : encode i = Command.pack o 0 0 0 0) (hi : i.WellFormed w) (h0 : c.rsv0 = 0)
    (ho : c.opc = o) (h : decodeN c i = .ok j) : j.WellFormed w ∧ encode j = c := by
  obtain ⟨rfl, hs, h1, h2, h3⟩ := decodeN_ok h
  exact ⟨hi, he.trans (pack_of_fields h0 ho hs h1 h2 h3)⟩

/-- A command accepted in format `C` is the encoding of a color of `PIXW` bits. -/
theorem encode_of_decodeC {f : Pixel → Instr} (he : encode (f c.w1) = Command.pack o 0 c.w1 0 0)
    (hf : (f c.w1).wellFormed w = w.fits c.w1) (h0 : c.rsv0 = 0) (ho : c.opc = o) (h : decodeC w c f = .ok j) :
    j.WellFormed w ∧ encode j = c := by
  obtain ⟨hc, hs, h2, h3, rfl⟩ := decodeC_ok h
  exact ⟨hf.trans hc, he.trans (pack_of_fields h0 ho hs rfl h2 h3)⟩

/-- Every accepted command is the encoding of a well-formed instruction, format by format. -/
theorem encode_of_decode (h : decode w c = .ok j) : j.WellFormed w ∧ encode j = c := by
  obtain ⟨h0, ⟨ho, h⟩ | ⟨ho, h⟩ | ⟨ho, h⟩ | ⟨ho, h⟩ | ⟨ho, h⟩ | ⟨ho, h⟩ | ⟨ho, h⟩ | ⟨ho, h⟩ | ⟨ho, h⟩ | ⟨ho, h⟩ |
    ⟨ho, h⟩ | ⟨ho, h⟩ | ⟨ho, h⟩⟩ := decode_ok h
  · obtain ⟨h2, ⟨hs, h3, rfl⟩ | ⟨hs, rfl⟩⟩ := decodeI_ok h
    · exact ⟨rfl, encode_init_of_fields h0 ho hs h2 h3⟩
    · exact ⟨rfl, encode_initBg_of_fields h0 ho hs h2⟩
  · exact encode_of_decodeN rfl rfl h0 ho h
  · obtain ⟨hs, h2, rfl⟩ := decodeR_ok h
    exact ⟨rfl, encode_rasterize_of_fields h0 ho hs h2⟩
  · exact encode_of_decodeN rfl rfl h0 ho h
  · exact encode_of_decodeN rfl rfl h0 ho h
  · exact encode_of_decodeN rfl rfl h0 ho h
  · exact encode_of_decodeN rfl rfl h0 ho h
  · exact encode_of_decodeN rfl rfl h0 ho h
  · obtain ⟨h1, h2, h3, sel, hs, rfl⟩ := decodeSelector_ok h
    exact ⟨rfl, pack_of_fields h0 ho hs h1 h2 h3⟩
  · exact encode_of_decodeC rfl rfl h0 ho h
  · exact encode_of_decodeC rfl rfl h0 ho h
  · obtain ⟨h1, h2, ⟨hs, rfl⟩ | ⟨hs, h3, rfl⟩⟩ := decodeBackground_ok h
    · exact ⟨rfl, pack_of_fields h0 ho hs h1 h2 rfl⟩
    · exact ⟨rfl, pack_of_fields h0 ho hs h1 h2 h3⟩
  · obtain ⟨hs, h1, h2, h3, rfl⟩ := decodeReadReg_ok h
    exact ⟨decide_eq_true hs, pack_of_fields h0 ho rfl h1 h2 h3⟩

end

/-! ### The rows of the opcode table (R84) -/

theorem Row.admits_iff {r : Row} {c : Command} : r.admits c = true ↔ c &&& r.mask = r.pattern := by
  simp [Row.admits]

/-- A field all of whose bits the mask takes has the pattern's value. -/
theorem Row.field_of_admits {r : Row} {c : Command} {start len : Nat} {v : BitVec len} (h : r.admits c = true)
    (hr : r.mask.extractLsb' start len = BitVec.allOnes len ∧ r.pattern.extractLsb' start len = v) :
    c.extractLsb' start len = v := by
  obtain ⟨hm, hp⟩ := hr
  rw [← hp, ← Row.admits_iff.mp h, BitVec.extractLsb'_and, hm, BitVec.and_allOnes]

/-- A row whose mask takes every bit admits its pattern alone. -/
theorem Row.eq_pattern_of_admits {r : Row} {c : Command} (h : r.admits c = true) (hm : r.mask = BitVec.allOnes 128) :
    c = r.pattern := by
  rw [← Row.admits_iff.mp h, hm, BitVec.and_allOnes]

/-- The values of `SUB[1:0]` are the selectors (R82). -/
theorem Selector.exists_toSub {v : BitVec 8} (h : v.extractLsb' 2 6 = 0) : ∃ sel : Selector, v = sel.toSub := by
  have small : ∀ v : BitVec 8, v.extractLsb' 2 6 = 0 → (Selector.ofSub v).isSome = true := by decide
  obtain ⟨sel, hsel⟩ := Option.isSome_iff_exists.mp (small v h)
  exact ⟨sel, Selector.ofSub_eq_some hsel⟩

/-- The bits of a field are bits of the word. -/
theorem extractLsb'_of_field {n start len start' len' : Nat} (x : BitVec n) (h : start' + len' ≤ len) :
    (x.extractLsb' start len).extractLsb' start' len' = x.extractLsb' (start + start') len' := by
  apply BitVec.eq_of_getLsbD_eq
  intro k hk
  have hin : start' + k < len := by omega
  simp [hin, hk, Nat.add_assoc]

/-- A command a row admits is the encoding of an instruction of that row: where the mask takes every bit that of the
pattern, else one with the operands that the bits outside the mask hold. -/
theorem exists_encode_of_admits {r : Row} {c : Command} (hr : r ∈ opcodeTable) (h : r.admits c = true) :
    ∃ i : Instr, i.mnemonic = r.mnemonic ∧ encode i = c := by
  have whole (i : Instr) (hi : i.mnemonic = r.mnemonic ∧ r.mask = BitVec.allOnes 128 ∧ encode i = r.pattern) :
      ∃ i : Instr, i.mnemonic = r.mnemonic ∧ encode i = c := by
    obtain ⟨hname, hmask, he⟩ := hi
    exact ⟨i, hname, he.trans (Row.eq_pattern_of_admits h hmask).symm⟩
  have field {start len : Nat} (v : BitVec len)
      (hv : r.mask.extractLsb' start len = BitVec.allOnes len ∧ r.pattern.extractLsb' start len = v := by decide) :
      c.extractLsb' start len = v := Row.field_of_admits h hv
  have h2 (hv : r.mask.extractLsb' 48 16 = BitVec.allOnes 16 ∧ r.pattern.extractLsb' 48 16 = 0 := by decide) :
      highHalf c.w2 = 0 :=
    (extractLsb'_of_field c (by decide)).trans (field 0 hv)
  simp only [opcodeTable, List.mem_cons, List.not_mem_nil, or_false] at hr
  rcases hr with rfl | rfl | rfl | rfl | rfl | rfl | rfl | rfl | rfl | rfl | rfl | rfl | rfl | rfl | rfl
  · exact ⟨.init _ _ _, rfl, encode_init_of_fields (field 0) (field 0x01) (field 0) h2 (field 0)⟩
  · exact ⟨.initBg _ _ _ _, rfl, encode_initBg_of_fields (field 0) (field 0x01) (field 1) h2⟩
  · exact whole .destroy (by decide)
  · exact ⟨.rasterize _ _ _, rfl, encode_rasterize_of_fields (field 0) (field 0x10) (field 0) h2⟩
  · exact whole .pendFlip (by decide)
  · exact whole .flipNow (by decide)
  · exact whole .getBackBuffer (by decide)
  · exact whole .makeBackGraphics (by decide)
  · exact whole .copyToBack (by decide)
  · obtain ⟨sel, hsel⟩ : ∃ sel : Selector, c.sub = sel.toSub :=
      Selector.exists_toSub ((extractLsb'_of_field c (by decide)).trans (field 0))
    exact ⟨.planeIsBitAddressable sel, rfl, pack_of_fields (field 0) (field 0x40) hsel (field 0) (field 0) (field 0)⟩
  · exact ⟨.setFgColor c.w1, rfl, pack_of_fields (field 0) (field 0x50) (field 0) rfl (field 0) (field 0)⟩
  · exact ⟨.setBgColor c.w1, rfl, pack_of_fields (field 0) (field 0x51) (field 0) rfl (field 0) (field 0)⟩
  · exact ⟨.setBackground c.w3, rfl, pack_of_fields (field 0) (field 0x52) (field 1) (field 0) (field 0) rfl⟩
  · exact whole .clrBackground (by decide)
  · exact ⟨.readReg c.sub, rfl, pack_of_fields (field 0) (field 0x60) rfl (field 0) (field 0) (field 0)⟩

/-- The encoding of every instruction belongs to the row of its mnemonic. -/
theorem encodesItsRow (i : Instr) : Laws.EncodesItsRow.Statement i := by
  cases i with
  | init => exact Laws.EncodesItsRow.init _ _ _
  | initBg => exact Laws.EncodesItsRow.initBg _ _ _ _
  | destroy => exact Laws.EncodesItsRow.destroy
  | rasterize => exact Laws.EncodesItsRow.rasterize _ _ _
  | pendFlip => exact Laws.EncodesItsRow.pendFlip
  | flipNow => exact Laws.EncodesItsRow.flipNow
  | getBackBuffer => exact Laws.EncodesItsRow.getBackBuffer
  | makeBackGraphics => exact Laws.EncodesItsRow.makeBackGraphics
  | copyToBack => exact Laws.EncodesItsRow.copyToBack
  | planeIsBitAddressable => exact Laws.EncodesItsRow.planeIsBitAddressable _
  | setFgColor => exact Laws.EncodesItsRow.setFgColor _
  | setBgColor => exact Laws.EncodesItsRow.setBgColor _
  | setBackground => exact Laws.EncodesItsRow.setBackground _
  | clrBackground => exact Laws.EncodesItsRow.clrBackground
  | readReg => exact Laws.EncodesItsRow.readReg _

/-- The two checks beside the table (R85), read off the command word: READ_REG's number and a color's width. -/
theorem Instr.wellFormed_iff_encode {w : PixelWidth} {i : Instr} : i.WellFormed w ↔
    (i.mnemonic = "READ_REG" → (encode i).sub.toNat ≤ 9) ∧
      (i.mnemonic = "SET_FG_COLOR" ∨ i.mnemonic = "SET_BG_COLOR" → (encode i).w1.toNat < 2 ^ w.bits) := by
  cases i with
  | readReg reg => simp [Instr.WellFormed, Instr.wellFormed, Instr.mnemonic, encode, BitVec.le_def]
  | setFgColor color | setBgColor color =>
    simp [Instr.WellFormed, Instr.wellFormed, Instr.mnemonic, encode, PixelWidth.fits_iff]
  | _ => simp [Instr.WellFormed, Instr.wellFormed, Instr.mnemonic]

/-- Two rows with a command in common agree where both masks look. -/
theorem Row.patterns_agree_of_admits {r₁ r₂ : Row} {c : Command} (h₁ : r₁.admits c = true) (h₂ : r₂.admits c = true) :
    r₁.pattern &&& r₂.mask = r₂.pattern &&& r₁.mask := by
  rw [← Row.admits_iff.mp h₁, ← Row.admits_iff.mp h₂, BitVec.and_assoc, BitVec.and_assoc, BitVec.and_comm r₁.mask]

/-- No two rows agree where both masks look. -/
theorem opcodeTable_patterns_differ :
    opcodeTable.Pairwise fun r₁ r₂ => r₁.pattern &&& r₂.mask ≠ r₂.pattern &&& r₁.mask := by
  decide

/-- No command belongs to two rows. -/
theorem opcodeTable_eq_of_admits {c : Command} {r₁ r₂ : Row} (hr₁ : r₁ ∈ opcodeTable) (hr₂ : r₂ ∈ opcodeTable)
    (h₁ : r₁.admits c = true) (h₂ : r₂.admits c = true) : r₁ = r₂ := by
  have : Std.Symm fun r₁ r₂ : Row => r₁.pattern &&& r₂.mask ≠ r₂.pattern &&& r₁.mask := ⟨fun _ _ => Ne.symm⟩
  by_contra hne
  exact opcodeTable_patterns_differ.forall hr₁ hr₂ hne (Row.patterns_agree_of_admits h₁ h₂)

end Sys2Proof

namespace Sys2Proof.Machine

/-! ### A response on the wires (R86) -/

/-- An append puts its left part above the bits of its right part. -/
theorem toNat_append_eq_add {m n : Nat} (x : BitVec m) (y : BitVec n) : (x ++ y).toNat = x.toNat * 2 ^ n + y.toNat := by
  rw [BitVec.toNat_append, ← Nat.shiftLeft_add_eq_or_of_lt y.isLt, Nat.shiftLeft_eq]

theorem Response.toNat_bits (r : Response) : r.bits.toNat = r.st.code.toNat * 2 ^ 128 + r.r0.toNat * 2 ^ 96 +
    r.r1.toNat * 2 ^ 64 + r.r2.toNat * 2 ^ 32 + r.r3.toNat := by
  simp only [Response.bits, toNat_append_eq_add]
  ring

theorem Status.code_lt (st : Status) : st.code.toNat < 3 := by
  cases st <;> decide

/-! ### What a halted block does (R89 (1)) -/

theorem State.withColor_halted {s : State} (h : s.mode = .halted) (color : Pixel) (e : Result) :
    s.withColor color e = .next s.noResponse := by
  unfold State.withColor
  split
  · exact State.whenReady_halted h _
  · exact State.unlessHalted_halted h _

theorem exec_of_halted {s : State} (h : s.mode = .halted) (i : Instr) : exec i s = .next s.noResponse := by
  cases i with
  | init | initBg => exact State.whenUnconfigured_halted h _
  | setFgColor | setBgColor => exact State.withColor_halted h _ _
  | readReg => exact State.unlessHalted_halted h _
  | destroy | rasterize | pendFlip | flipNow | getBackBuffer | makeBackGraphics | copyToBack
  | planeIsBitAddressable | setBackground | clrBackground => exact State.whenReady_halted h _

theorem execCommand_of_halted {s : State} (h : s.mode = .halted) (cmd : Command) :
    execCommand cmd s = .next s.noResponse := by
  cases hd : decode s.platform.pixelWidth cmd with
  | ok i => exact (execCommand_ok hd).trans (exec_of_halted h i)
  | error e => exact (execCommand_error hd).trans (State.unlessHalted_halted h _)

/-- A command that a free requester presents to a halted block leaves that requester waiting. -/
theorem takeCommand_of_halted {s : State} {p : Port} (cmd : Command) (hr : s.resetAsserted = false)
    (hp : s.portStuck p = false) (h : s.mode = .halted) :
    takeCommand p cmd s = .next (s.noResponse.leaveWaiting p cmd) := by
  rw [takeCommand_free hr hp, execCommand_of_halted h]
  rfl

/-! ### The port a command comes from (R80) -/

theorem takeCommand_of_resetAsserted {s : State} (p : Port) (cmd : Command) (h : s.resetAsserted = true) :
    takeCommand p cmd s = .next s := by
  simp [takeCommand, h]

/-- Returning a response changes nothing but the ports. -/
theorem State.answer_but_ports (s : State) (p : Port) (cmd : Command) (vT vD : PortState) :
    { s.answer p cmd with portT := vT, portD := vD } = { s with portT := vT, portD := vD } := by
  obtain ⟨v, hv⟩ := s.answer_eq_setPort p cmd
  rw [hv]
  cases p <;> rfl

end Sys2Proof.Machine

namespace Sys2Proof.Proofs

open Sys2Proof.Machine

/-- Settles O1: each format's fields give its operands back. -/
theorem decodeOfEncode : Obligations.DecodeOfEncode := fun _ _ => decode_encode

/-- Settles O2, by the format that accepted the command. -/
theorem encodeOfDecode : Obligations.EncodeOfDecode := fun _ _ _ => encode_of_decode

/-- Settles O3: both sides say that the command is the encoding of a well-formed instruction of that mnemonic. -/
theorem decodeMatchesOpcodeTable : Obligations.DecodeMatchesOpcodeTable := by
  intro w c name
  constructor
  · rintro ⟨i, hd, rfl⟩
    obtain ⟨hw, rfl⟩ := encode_of_decode hd
    obtain ⟨r, hr, hname, ha⟩ := encodesItsRow i
    exact ⟨r, hr, hname, ha, Instr.wellFormed_iff_encode.mp hw⟩
  · rintro ⟨r, hr, rfl, ha, hchecks⟩
    obtain ⟨i, hname, rfl⟩ := exists_encode_of_admits hr ha
    rw [← hname] at hchecks ⊢
    exact ⟨i, decode_encode (Instr.wellFormed_iff_encode.mpr hchecks), rfl⟩

/-- Settles O4: two rows with a command in common would agree where both masks look, and no two do. -/
theorem opcodeTableRowsAreDisjoint : Obligations.OpcodeTableRowsAreDisjoint :=
  fun _ _ _ => opcodeTable_eq_of_admits

/-- Settles O6: the appends as a sum, the codes by cases on the status. -/
theorem responseWires : Obligations.ResponseWires :=
  ⟨Response.toNat_bits, rfl, rfl, rfl, Status.code_lt⟩

/-- Settles O7: the step is the command's instruction with its answer returned to the port. -/
theorem stepRunsTheDecodedCommand : Obligations.StepRunsTheDecodedCommand := by
  intro s p cmd rest i hpend hr hp hd
  have hp' : (s.advance rest).portStuck p = false := by simpa using hp
  have hstep : step s = returnTo p cmd (exec i { s with pending := rest }) :=
    calc step s
        = takeCommand p cmd (s.advance rest) := stepEvent_cons hpend
      _ = returnTo p cmd (execCommand cmd (s.advance rest)) := takeCommand_free hr hp'
      _ = returnTo p cmd (exec i (s.advance rest)) := congrArg _ (execCommand_ok hd)
  rw [hstep]
  cases exec i { s with pending := rest } with
  | next t =>
    simp only [returnTo, State.answer, State.leaveWaiting]
    cases t.response <;> rfl
  | fault f => rfl
  | refused r => rfl

/-- Settles O8: the port decides only where the answer is returned. -/
theorem portDoesNotMatter : Obligations.PortDoesNotMatter := by
  intro s t p q cmd rest hT hD ht
  have free (r : Port) : (s.advance rest).portStuck r = false := by
    cases r with
    | T => simpa using hT
    | D => simpa using hD
  have hstep (r : Port) : step { s with pending := .command r cmd :: rest } = takeCommand r cmd (s.advance rest) :=
    s.step_advance_cons (.command r cmd) rest
  rw [hstep] at ht
  simp only [hstep]
  cases hr : (s.advance rest).resetAsserted with
  | true =>
    rw [takeCommand_of_resetAsserted p cmd hr] at ht
    exact ⟨t, (takeCommand_of_resetAsserted q cmd hr).trans ht, rfl⟩
  | false =>
    rw [takeCommand_free hr (free p)] at ht
    obtain ⟨v, hv, rfl⟩ := returnTo_next ht
    refine ⟨v.answer q cmd, ?_, (v.answer_but_ports q cmd _ _).trans (v.answer_but_ports p cmd _ _).symm⟩
    rw [takeCommand_free hr (free q), hv]
    rfl

/-- Settles O13: a requester already stuck is passed over, a free one is left waiting. -/
theorem haltedBlockNeverAnswers : Obligations.HaltedBlockNeverAnswers := by
  intro s p cmd rest hpend hr hm
  have hstep : step s = takeCommand p cmd (s.advance rest) := stepEvent_cons hpend
  rw [hstep]
  cases hp : s.portStuck p with
  | true =>
    have hp' : (s.advance rest).portStuck p = true := by simpa using hp
    refine ⟨s.advance rest, takeCommand_of_portStuck cmd hp', hp', ?_, rfl⟩
    cases p <;> rfl
  | false =>
    have hp' : (s.advance rest).portStuck p = false := by simpa using hp
    refine ⟨_, takeCommand_of_halted cmd hr hp' hm, ?_⟩
    cases p <;> exact ⟨rfl, rfl, rfl⟩

end Sys2Proof.Proofs

/-! The statements from 40_lifecycle.md: INIT and INIT.BG complete (R100), wait for ever on the allocator
(47_external_units.md R175) or have no meaning (93_implementation_defined.md U1); DESTROY clears the block (R101). -/

namespace Sys2Proof

/-! ### The encodings of one instruction (R82, R84) -/

section
variable {w : PixelWidth} {c : Command} {i : Instr}

/-- The decoder reads an instruction from its encoding and from no other command. -/
theorem decode_eq_ok_iff : decode w c = .ok i ↔ i.WellFormed w ∧ encode i = c := by
  constructor
  · exact encode_of_decode
  · rintro ⟨hw, rfl⟩
    exact decode_encode hw

/-- Where one instruction alone has the command's opcode, every command but its encoding is illegal. -/
theorem decode_error_of_opc (only : ∀ j : Instr, (encode j).opc = c.opc → j = i) (hc : c ≠ encode i) :
    ∃ e, decode w c = .error e := by
  cases hd : decode w c with
  | error e => exact ⟨e, rfl⟩
  | ok j =>
    obtain ⟨_, he⟩ := encode_of_decode hd
    have hj : j = i := only j (congrArg Command.opc he)
    exact absurd (hj ▸ he.symm) hc

end

theorem encode_destroy : encode .destroy = 0x02000000000000000000000000000000 := by decide

theorem Instr.eq_destroy_of_opc {j : Instr} (h : (encode j).opc = 0x02) : j = .destroy := by
  cases j with
  | destroy => rfl
  | _ => simp [encode] at h

end Sys2Proof

namespace Sys2Proof.Machine

/-! ### What INIT and INIT.BG answer in UNCONFIGURED (R100) -/

section
variable {s : State} {i : Instr} {width height topLine : Dim} {bg : Option Addr}

theorem Instr.Constructs.exec_eq (hi : Instr.Constructs i width height topLine bg) (s : State) :
    exec i s = s.initialise width height topLine bg := by
  cases hi <;> rfl

/-- The width is looked at before the allocator is called (93_implementation_defined.md U1). -/
theorem Instr.Constructs.exec_of_misaligned (hi : Instr.Constructs i width height topLine bg)
    (hm : s.mode = .unconfigured) (hw : width.toNat % Config.bpw ≠ 0) : exec i s = .refused .misalignedWidth := by
  rw [hi.exec_eq, State.initialise, State.whenUnconfigured_unconfigured hm, if_neg hw]

theorem Instr.Constructs.exec_of_aligned (hi : Instr.Constructs i width height topLine bg)
    (hm : s.mode = .unconfigured) (hw : width.toNat % Config.bpw = 0) :
    exec i s = .next (s.initialiseAligned width height topLine bg) := by
  rw [hi.exec_eq, State.initialise, State.whenUnconfigured_unconfigured hm, if_pos hw]

theorem Instr.Constructs.exec_of_room (hi : Instr.Constructs i width height topLine bg) (hm : s.mode = .unconfigured)
    (hw : width.toNat % Config.bpw = 0) (hr : s.ArenaHasRoom (wordsAsked width height)) :
    exec i s = .next (s.built width height topLine bg) := by
  rw [hi.exec_of_aligned hm hw, State.initialiseAligned, ← wordsAsked, State.allocatePlanes_of_room hr]
  rfl

theorem Instr.Constructs.exec_of_no_room (hi : Instr.Constructs i width height topLine bg)
    (hm : s.mode = .unconfigured) (hw : width.toNat % Config.bpw = 0)
    (hr : ¬ s.ArenaHasRoom (wordsAsked width height)) : exec i s = .next s.allocationFails := by
  rw [hi.exec_of_aligned hm hw, State.initialiseAligned, ← wordsAsked, State.allocatePlanes_of_no_room hr]

/-- WPL, divided as a 16-bit value, is the quotient of the integers (R100). -/
theorem div_bpw_eq_ofNat (width : Dim) : width / 32 = BitVec.ofNat 16 (width.toNat / Config.bpw) := BitVec.udiv_def

/-- The state a completed INIT leaves, variable by variable (R100), `bg` being `bg_addr` where given. -/
theorem State.built_eq (s : State) (width height topLine : Dim) (bg : Option Addr) :
    s.built width height topLine bg =
      { s with
        mode := .ready, width := width, height := height, wpl := BitVec.ofNat 16 (width.toNat / Config.bpw)
        topLine := topLine, planeBase0 := BitVec.ofNat 32 s.arenaNext
        planeBase1 := BitVec.ofNat 32 (s.arenaNext + 4 * wordsAsked width height), palette0 := s.platform.palOff
        palette1 := s.platform.palOn, activeIndex := false, flipPending := false
        bgPresent := bg.isSome, bgBase := bg.getD 0
        arenaNext := s.arenaNext + 8 * wordsAsked width height, response := some ⟨.ok, 0, 0, 0, 0⟩ } := by
  have hplane : wordsAsked width height * Config.wordBytes = 4 * wordsAsked width height := Nat.mul_comm _ _
  have hnext : 2 * (4 * wordsAsked width height) = 8 * wordsAsked width height := by omega
  rw [State.built, State.construct, div_bpw_eq_ofNat, hplane, hnext]
  rfl

end

end Sys2Proof.Machine

namespace Sys2Proof.Proofs

open Sys2Proof.Machine

/-- Settles O19: with room both allocator calls return, so both forms leave `State.built`. -/
theorem constructionWritesEveryVariable : Obligations.ConstructionWritesEveryVariable := by
  rintro s width height topLine bgAddr count hm hw rfl hr
  have completes {i : Instr} {bg : Option Addr} (hi : Instr.Constructs i width height topLine bg) :=
    (hi.exec_of_room hm hw hr).trans (congrArg Host.Outcome.next (s.built_eq width height topLine bg))
  exact ⟨completes (.init _ _ _), completes (.initBg _ _ _ _)⟩

/-- Settles O20: without room the two allocator calls do not both return. -/
theorem constructionWithoutRoomNeverCompletes : Obligations.ConstructionWithoutRoomNeverCompletes :=
  fun _ width height topLine bgAddr hm hw hr =>
    ⟨(Instr.Constructs.init width height topLine).exec_of_no_room hm hw hr,
      (Instr.Constructs.initBg width height topLine bgAddr).exec_of_no_room hm hw hr⟩

/-- Settles O21: both forms test the width once they are admitted. -/
theorem misalignedWidthIsRefused : Obligations.MisalignedWidthIsRefused :=
  fun _ width height topLine bgAddr hm hw =>
    ⟨(Instr.Constructs.init width height topLine).exec_of_misaligned hm hw,
      (Instr.Constructs.initBg width height topLine bgAddr).exec_of_misaligned hm hw⟩

/-- Settles O23: the encoding from the decoder's inverse, the effect by cases on MODE. -/
theorem destroyClearsTheBlock : Obligations.DestroyClearsTheBlock := by
  refine ⟨fun w c => ?_, fun w c ho hc => ?_, fun s => ⟨fun hm => ?_, fun hm => ?_, fun hm => ?_⟩⟩
  · rw [decode_eq_ok_iff, encode_destroy, and_iff_right (show Instr.WellFormed w .destroy from rfl), eq_comm]
  · exact decode_error_of_opc (fun j hj => Instr.eq_destroy_of_opc (hj.trans ho)) (encode_destroy ▸ hc)
  · exact State.whenReady_ready hm _
  · exact State.whenReady_unconfigured hm _
  · exact exec_of_halted hm .destroy

end Sys2Proof.Proofs

/-! The statements from 41_rasterize.md: RASTERIZE answers the zero-length descriptor for a line out of range (R113),
draws the row of a line in range (R114 to R116) under its preconditions, and is refused without them
(93_implementation_defined.md U2 to U5). -/

namespace Sys2Proof.Machine

/-! ### Where a line stands, and the flip it consumes (R111 to R113) -/

theorem State.localRow_eq_zero_iff {s : State} {line : Dim} : s.localRow line = 0 ↔ line = s.topLine := by
  rw [← BitVec.toNat_inj, State.localRow]
  omega

/-- The flip pair after step 2, `p` saying that the line is local row 0. -/
theorem State.atLine_eq_of_iff {s : State} {line : Dim} {p : Prop} [Decidable p] (h : s.localRow line = 0 ↔ p) :
    s.atLine line =
      { s with
        flipPending := if p then false else s.flipPending
        activeIndex := if p ∧ s.flipPending = true then !s.activeIndex else s.activeIndex } := by
  by_cases hp : p
  · simp [State.atLine, State.consumeFlip, h.mpr hp, hp]
  · simp [State.atLine, mt h.mp hp, hp]

theorem State.atLine_rowInRange_of_outside {s : State} {line : Dim}
    (h : line.toNat < s.topLine.toNat ∨ s.topLine.toNat + s.height.toNat ≤ line.toNat) :
    (s.atLine line).rowInRange line = none := by
  have hout : s.localRow line < 0 ∨ (s.height.toNat : Int) ≤ s.localRow line := by
    unfold State.localRow
    omega
  obtain ⟨a, f, e⟩ := s.atLine_eq line
  rw [e]
  exact State.rowInRange_eq_none.mpr hout

@[simp] theorem State.atLine_palette0 (s : State) (line : Dim) : (s.atLine line).palette0 = s.palette0 := by
  obtain ⟨a, f, e⟩ := s.atLine_eq line
  rw [e]

@[simp] theorem State.atLine_palette1 (s : State) (line : Dim) : (s.atLine line).palette1 = s.palette1 := by
  obtain ⟨a, f, e⟩ := s.atLine_eq line
  rw [e]

/-! ### The row the expander leaves, pixel by pixel (R115; 47_external_units.md R177 to R179) -/

/-- The bit that pixel `x` of a packed row is, the numbering of 20_memory.md R55 written out. -/
theorem packedPixel_eq_getLsbD (order : BitOrder) (m : Memory) (src x : Nat) :
    packedPixel order m src x =
      (m.readWord (src + x / 32 * 4)).getLsbD
        (match order with
          | .lsbFirst => x % 32
          | .msbFirst => 31 - x % 32) := by
  cases order <;> rfl

/-- The two blends of 47_external_units.md R179 written out. -/
theorem blendUnset_eq (w : PixelWidth) (blend : Blend) (p0 bg : Pixel) :
    blendUnset w blend p0 bg =
      match blend with
      | .background => bg
      | .other => BitVec.ofNat 32 ((Config.overlayUnset w p0 bg).toNat % 2 ^ w.bits) := by
  cases blend <;> rfl

/-- The state after steps 4 and 5 of RASTERIZE: the row drawn and its descriptor returned (R114 to R116). -/
def State.rowDrawn (s : State) (row : Nat) (cpp : Cpp) (dest : Addr) : State :=
  { s with mem := s.expandRow row dest.toNat }.respond 0 (BitVec.ofNat 32 s.rowPixels) cpp 0

@[simp] theorem State.rowDrawn_mem (s : State) (row : Nat) (cpp : Cpp) (dest : Addr) :
    (s.rowDrawn row cpp dest).mem = s.expandRow row dest.toNat := rfl

theorem State.fits_drawnPixel {s : State} (h : s.PaletteFits) (row x : Nat) :
    s.platform.pixelWidth.fits (s.drawnPixel row x) = true := by
  obtain ⟨h0, h1⟩ := h
  unfold State.drawnPixel overlayPixel plainPixel
  split <;> split
  · exact h1
  · exact fits_blendUnset (Memory.fits_readPixel _ _ _)
  · exact h1
  · exact h0

/-- A pixel of the drawn row reads back as the value step 4b gives it. -/
theorem State.readPixel_expandRow {s : State} (h : s.PaletteFits) (row dest : Nat) {x : Nat} (hx : x < s.rowPixels) :
    (s.expandRow row dest).readPixel s.platform.pixelWidth (dest + x * s.pixBytes) = s.drawnPixel row x := by
  have hlen : x < ((List.range s.rowPixels).map (s.drawnPixel row)).length := by simpa using hx
  have hget : ((List.range s.rowPixels).map (s.drawnPixel row))[x] = s.drawnPixel row x := by simp
  rw [State.expandRow_eq_writeRun]
  exact (Memory.readPixel_writeRun s.mem hlen (hget ▸ s.fits_drawnPixel h row x)).trans hget

/-! ### What RASTERIZE answers once it is admitted (R110) -/

section
variable {s : State} {cpp : Cpp} {line : Dim} {dest : Addr} {row : Nat}

theorem exec_rasterize_of_ready (hm : s.mode = .ready) :
    exec (.rasterize cpp line dest) s = (s.atLine line).produceRow cpp line dest :=
  State.whenReady_ready hm _

theorem State.produceRow_of_none (h : s.rowInRange line = none) :
    s.produceRow cpp line dest = .next (s.respond 0 0 cpp 0) := by
  simp [State.produceRow, h]

theorem State.produceRow_of_allowed (h : s.rowInRange line = some row) (ha : s.RowAllowed row dest.toNat) :
    s.produceRow cpp line dest = .next (s.rowDrawn row cpp dest) := by
  simp [State.produceRow, h, State.rasterRow_of_allowed ha, State.rowDrawn, State.rowPixels]

/-- Without its preconditions a row is refused before memory is touched. -/
theorem State.produceRow_of_not_allowed (h : s.rowInRange line = some row) (ha : ¬ s.RowAllowed row dest.toNat) :
    ∃ r, s.produceRow cpp line dest = .refused r := by
  cases hr : s.rowRefusal row dest.toNat with
  | none => exact absurd (State.rowRefusal_eq_none.mp hr) ha
  | some r => exact ⟨r, by simp [State.produceRow, h, State.rasterRow, hr]⟩

/-- A line in range draws in the state `s.atLine line`, written out as its flip pair. -/
theorem State.atLine_eq_of_row (h : line.toNat = s.topLine.toNat + row) :
    s.atLine line =
      { s with
        flipPending := if row = 0 then false else s.flipPending
        activeIndex := if row = 0 ∧ s.flipPending = true then !s.activeIndex else s.activeIndex } :=
  State.atLine_eq_of_iff (by rw [State.localRow_of_line h, Int.natCast_eq_zero])

theorem exec_rasterize_of_allowed (hm : s.mode = .ready) (hl : line.toNat = s.topLine.toNat + row)
    (hh : row < s.height.toNat) (ha : (s.atLine line).RowAllowed row dest.toNat) :
    exec (.rasterize cpp line dest) s = .next ((s.atLine line).rowDrawn row cpp dest) := by
  rw [exec_rasterize_of_ready hm,
    State.produceRow_of_allowed (State.atLine_rowInRange (State.localRow_of_line hl) hh) ha]

theorem exec_rasterize_of_not_allowed (hm : s.mode = .ready) (hl : line.toNat = s.topLine.toNat + row)
    (hh : row < s.height.toNat) (ha : ¬ (s.atLine line).RowAllowed row dest.toNat) :
    ∃ r, exec (.rasterize cpp line dest) s = .refused r := by
  rw [exec_rasterize_of_ready hm]
  exact State.produceRow_of_not_allowed (State.atLine_rowInRange (State.localRow_of_line hl) hh) ha

/-- A line in range that is allowed changes the flip pair, the response and the destination row, which shows the values
of step 4b (R112, R114 to R116). -/
theorem exec_rasterize_draws {f : State} (hf : s.atLine line = f) (hm : s.mode = .ready)
    (hl : line.toNat = s.topLine.toNat + row) (hh : row < s.height.toNat) (hp : s.PaletteFits)
    (ha : f.RowAllowed row dest.toNat) :
    ∃ t, exec (.rasterize cpp line dest) s = .next t ∧
      t.response = some ⟨.ok, 0, BitVec.ofNat 32 s.rowPixels, cpp, 0⟩ ∧
      { t with mem := f.mem, response := f.response } = f ∧
      (∀ b, (b < dest.toNat ∨ dest.toNat + s.rowPixels * s.pixBytes ≤ b) → t.mem.read b = s.mem.read b) ∧
      ∀ x, x < s.rowPixels →
        t.mem.readPixel s.platform.pixelWidth (dest.toNat + x * s.pixBytes) = f.drawnPixel row x := by
  subst hf
  refine ⟨_, exec_rasterize_of_allowed hm hl hh ha, ?response, rfl, fun b hb => ?outside, fun x hx => ?pixel⟩
  case response => rw [State.rowDrawn, State.respond_response, State.atLine_rowPixels]
  case outside =>
    have hb' : b < dest.toNat ∨ dest.toNat + (s.atLine line).pixelRowBytes ≤ b := by
      simpa [State.pixelRowBytes] using hb
    rw [State.rowDrawn_mem, State.read_expandRow_outside hb', State.atLine_mem]
  case pixel =>
    have hp' : (s.atLine line).PaletteFits := by simpa [State.PaletteFits] using hp
    have hx' : x < (s.atLine line).rowPixels := by simpa using hx
    simpa using State.readPixel_expandRow hp' row dest.toNat hx'

end

end Sys2Proof.Machine

namespace Sys2Proof.Proofs

open Sys2Proof.Machine

/-- Settles O24: the range check answers before step 4, after the consumption of step 2. -/
theorem rasterizeOutOfRangeLine : Obligations.RasterizeOutOfRangeLine := by
  intro s cpp line dest hm hout
  rw [exec_rasterize_of_ready hm, State.produceRow_of_none (State.atLine_rowInRange_of_outside hout),
    State.atLine_eq_of_iff State.localRow_eq_zero_iff]
  rfl

/-- Settles O25: without a background the values of step 4b are `EXPAND`'s. -/
theorem rasterizeDrawsThePlainRow : Obligations.RasterizeDrawsThePlainRow := by
  intro s f cpp line dest row hm hl hh hf hb hp ha
  have hline : s.atLine line = f := (State.atLine_eq_of_row hl).trans hf.symm
  obtain ⟨t, ht, hr, hframe, hout, hpix⟩ := exec_rasterize_draws (cpp := cpp) hline hm hl hh hp ha
  refine ⟨t, ht, hr, hframe, hout, fun x hx => (hpix x hx).trans ?_⟩
  have hb' : ¬ f.bgPresent = true := by simp [hf, hb]
  rw [State.drawnPixel, if_neg hb', plainPixel, packedPixel_eq_getLsbD, hf]
  rfl

/-- Settles O26: with a background the values of step 4b are `EXPAND_WITH_OVERLAY`'s. -/
theorem rasterizeDrawsTheOverlayRow : Obligations.RasterizeDrawsTheOverlayRow := by
  intro s f cpp line dest row hm hl hh hf hb hp ha
  have hline : s.atLine line = f := (State.atLine_eq_of_row hl).trans hf.symm
  obtain ⟨t, ht, hr, hframe, hout, hpix⟩ := exec_rasterize_draws (cpp := cpp) hline hm hl hh hp ha
  refine ⟨t, ht, hr, hframe, hout, fun x hx => (hpix x hx).trans ?_⟩
  have hb' : f.bgPresent = true := by rw [hf, hb]
  rw [State.drawnPixel, if_pos hb', overlayPixel, packedPixel_eq_getLsbD, blendUnset_eq, hf]
  rfl

/-- Settles O27: the state whose preconditions count is the one after the consumption. -/
theorem rasterizeRunsExactlyWhenAllowed : Obligations.RasterizeRunsExactlyWhenAllowed := by
  intro s f cpp line dest row hm hl hh hf
  obtain rfl : f = s.atLine line := hf.trans (State.atLine_eq_of_row hl).symm
  exact ⟨fun ha => ⟨_, exec_rasterize_of_allowed hm hl hh ha⟩, exec_rasterize_of_not_allowed hm hl hh⟩

end Sys2Proof.Proofs

/-! The statements from 42_flip.md: the two flip commands (R130, R131), the flip FSM (R132), and what holds over a whole run:
requests to flip coalesce (R133, R134) and a frame is read from one unchanged plane (R135). -/

namespace Sys2Proof

/-! ### Instructions with one encoding (R82, R84) -/

/-- An instruction without operands, alone under its opcode `o`, has one encoding, and every other command with that
opcode is illegal. -/
theorem decode_of_sole_encoding {i : Instr} {o : BitVec 8} {code : Command} (he : encode i = code)
    (hw : ∀ w, i.WellFormed w) (only : ∀ j : Instr, (encode j).opc = o → j = i) :
    (∀ (w : PixelWidth) (c : Command), decode w c = .ok i ↔ c = code) ∧
      ∀ (w : PixelWidth) (c : Command), c.opc = o → c ≠ code → ∃ e, decode w c = .error e := by
  subst he
  constructor
  · intro w c
    rw [decode_eq_ok_iff, and_iff_right (hw w), eq_comm]
  · intro w c ho hc
    exact decode_error_of_opc (fun j hj => only j (hj.trans ho)) hc

theorem encode_pendFlip : encode .pendFlip = 0x20000000000000000000000000000000 := by decide

theorem encode_flipNow : encode .flipNow = 0x21000000000000000000000000000000 := by decide

theorem Instr.eq_pendFlip_of_opc {j : Instr} (h : (encode j).opc = 0x20) : j = .pendFlip := by
  cases j with
  | pendFlip => rfl
  | _ => simp [encode] at h

theorem Instr.eq_flipNow_of_opc {j : Instr} (h : (encode j).opc = 0x21) : j = .flipNow := by
  cases j with
  | flipNow => rfl
  | _ => simp [encode] at h

end Sys2Proof

namespace Sys2Proof.Machine

/-- What each MODE answers to an instruction that needs READY (30_encoding.md R89). -/
theorem exec_by_mode {s : State} {i : Instr} {e : Result} (h : exec i s = s.whenReady e) :
    (s.mode = .ready → exec i s = e) ∧ (s.mode = .unconfigured → exec i s = .next (s.reject .errState)) ∧
      (s.mode = .halted → exec i s = .next s.noResponse) := by
  rw [h]
  exact ⟨fun hm => State.whenReady_ready hm e, fun hm => State.whenReady_unconfigured hm e,
    fun hm => State.whenReady_halted hm e⟩

/-! ### The flip FSM (R132) -/

/-- The state of the flip FSM. -/
def State.flipPair (s : State) : Bool × Bool := (s.activeIndex, s.flipPending)

/-- The row of the table of R132: the pair a command leaves in READY. -/
def State.flipPairAfter (s : State) : Instr → Bool × Bool
  | .pendFlip => (s.activeIndex, true)
  | .flipNow => (!s.activeIndex, s.flipPending)
  | .destroy => (false, false)
  | .rasterize _ line _ =>
    if line = s.topLine then (if s.flipPending then !s.activeIndex else s.activeIndex, false) else s.flipPair
  | _ => s.flipPair

theorem State.atLine_topLine_flipPair (s : State) :
    (s.atLine s.topLine).flipPair = (if s.flipPending then !s.activeIndex else s.activeIndex, false) := by
  rw [State.atLine, if_pos (State.localRow_eq_zero_iff.mpr rfl)]
  rfl

/-- Away from line TOP_LINE nothing is consumed. -/
theorem State.atLine_of_ne {s : State} {line : Dim} (h : line ≠ s.topLine) : s.atLine line = s :=
  if_neg (mt State.localRow_eq_zero_iff.mp h)

/-- Once the flip is consumed the row leaves the pair alone. -/
theorem State.flipPair_of_produceRow {s t : State} {cpp : Cpp} {line : Dim} {dest : Addr}
    (h : s.produceRow cpp line dest = .next t) : t.flipPair = s.flipPair := by
  cases hrow : s.rowInRange line with
  | none =>
    rw [State.produceRow_of_none hrow] at h
    cases h
    rfl
  | some row =>
    by_cases ha : s.RowAllowed row dest.toNat
    · rw [State.produceRow_of_allowed hrow ha] at h
      cases h
      rfl
    · obtain ⟨r, hr⟩ := State.produceRow_of_not_allowed (cpp := cpp) hrow ha
      rw [hr] at h
      cases h

theorem State.TurnsAway.flipPair_eq {s t : State} (h : s.TurnsAway t) : t.flipPair = s.flipPair := by
  cases h <;> rfl

/-- Of the commands READY admits, four write the pair. -/
theorem State.Executes.flipPair_eq {s t : State} {i : Instr} (h : s.Executes i t) (hm : s.mode = .ready)
    (hp : i ≠ .pendFlip) (hn : i ≠ .flipNow) (hd : i ≠ .destroy)
    (hr : ∀ cpp line dest, i ≠ .rasterize cpp line dest) : t.flipPair = s.flipPair := by
  cases h with
  | turnedAway h => exact h.flipPair_eq
  | constructed _ hu | starved _ hu => simp [hm] at hu
  | destroy => exact absurd rfl hd
  | rasterizeOutside | rasterizeRow => exact absurd rfl (hr _ _ _)
  | pendFlip => exact absurd rfl hp
  | flipNow => exact absurd rfl hn
  | getBackBuffer | backGranted | backHalts | copyToBack | planeIsBitAddressable | setFgColor | setBgColor
  | setBackground | clrBackground | readReg => rfl

/-- Every command in READY takes the pair where the table says. -/
theorem flipPair_of_exec {s t : State} {i : Instr} (hm : s.mode = .ready) (h : exec i s = .next t) :
    t.flipPair = s.flipPairAfter i := by
  cases i with
  | pendFlip | flipNow | destroy =>
    cases (State.whenReady_ready hm _).symm.trans h
    rfl
  | rasterize cpp line dest =>
    rw [exec_rasterize_of_ready hm] at h
    rw [State.flipPair_of_produceRow h, State.flipPairAfter]
    split
    · subst line
      exact s.atLine_topLine_flipPair
    · rw [State.atLine_of_ne ‹_›]
  | _ => exact (executes_of_exec h).flipPair_eq hm nofun nofun nofun nofun

/-! ### Commands at a configured block that neither flip it by hand, nor end it, nor consume a flip -/

/-- What a row of the frame is read through: the parameters, the geometry, the planes and which of them is front. -/
structure State.SameFrame (s t : State) : Prop where
  platform : t.platform = s.platform
  height : t.height = s.height
  wpl : t.wpl = s.wpl
  topLine : t.topLine = s.topLine
  planeBase0 : t.planeBase0 = s.planeBase0
  planeBase1 : t.planeBase1 = s.planeBase1
  activeIndex : t.activeIndex = s.activeIndex

section
variable {s t u : State}

theorem State.SameFrame.refl (s : State) : s.SameFrame s := ⟨rfl, rfl, rfl, rfl, rfl, rfl, rfl⟩

theorem State.SameFrame.trans (h : s.SameFrame t) (h' : t.SameFrame u) : s.SameFrame u :=
  ⟨h'.platform.trans h.platform, h'.height.trans h.height, h'.wpl.trans h.wpl, h'.topLine.trans h.topLine,
    h'.planeBase0.trans h.planeBase0, h'.planeBase1.trans h.planeBase1, h'.activeIndex.trans h.activeIndex⟩

theorem State.SameFrame.advance (h : s.SameFrame t) (rest : List Event) : s.SameFrame (t.advance rest) := { h with }

theorem State.SameFrame.frontBase (h : s.SameFrame t) : t.frontBase = s.frontBase := by
  simp only [State.frontBase, State.planeBase, h.planeBase0, h.planeBase1, h.activeIndex]

theorem State.SameFrame.planeBytes (h : s.SameFrame t) : t.planeBytes = s.planeBytes := by
  simp only [State.planeBytes, State.planeWords, h.wpl, h.height]

theorem State.SameFrame.sourceRow (h : s.SameFrame t) (row : Nat) : t.sourceRow row = s.sourceRow row := by
  simp only [State.sourceRow, h.frontBase, h.wpl]

theorem State.SameFrame.sparesFront (h : s.SameFrame t) (a n : Nat) : t.sparesFront a n = s.sparesFront a n := by
  simp only [State.sparesFront, h.frontBase, h.planeBytes]

theorem State.SameFrame.pixelRowBytes (h : s.SameFrame t) : t.pixelRowBytes = s.pixelRowBytes := by
  simp only [State.pixelRowBytes, State.rowPixels, State.pixBytes, h.wpl, h.platform]

theorem State.SameFrame.betweenConsumptions (h : s.SameFrame t) (e : Event) :
    t.betweenConsumptions e = s.betweenConsumptions e := by
  unfold State.betweenConsumptions
  rw [h.platform, h.topLine]

theorem State.SameFrame.requestsFlip (h : s.SameFrame t) (e : Event) : t.requestsFlip e = s.requestsFlip e := by
  unfold State.requestsFlip
  rw [h.platform]

theorem State.SameFrame.rasterizesLine (h : s.SameFrame t) (line : Dim) (e : Event) :
    t.rasterizesLine line e = s.rasterizesLine line e := by
  unfold State.rasterizesLine
  rw [h.platform]

theorem State.SameFrame.keepsFrame (h : s.SameFrame t) (e : Event) : t.keepsFrame e = s.keepsFrame e := by
  unfold State.keepsFrame
  simp only [h.platform, h.topLine, h.sparesFront, h.pixelRowBytes]

end

/-- An instruction that may come between two consumptions (R134). -/
def State.mayIntervene (s : State) : Instr → Bool
  | .flipNow => false
  | .destroy => false
  | .rasterize _ line _ => line != s.topLine
  | _ => true

theorem State.betweenConsumptions_command {s : State} {p : Port} {cmd : Command} {i : Instr}
    (hd : decode s.platform.pixelWidth cmd = .ok i) : s.betweenConsumptions (.command p cmd) = s.mayIntervene i := by
  simp only [State.betweenConsumptions, hd]
  cases i <;> rfl

theorem State.requestsFlip_command {s : State} {p : Port} {cmd : Command} {i : Instr}
    (hd : decode s.platform.pixelWidth cmd = .ok i) : s.requestsFlip (.command p cmd) = decide (i = .pendFlip) := by
  simp only [State.requestsFlip, hd]
  cases i <;> rfl

theorem State.requestsFlip_illegal {s : State} {p : Port} {cmd : Command} {e : Illegal}
    (hd : decode s.platform.pixelWidth cmd = .error e) : s.requestsFlip (.command p cmd) = false := by
  simp only [State.requestsFlip, hd]

/-- Restricted to these instructions, the table of R132 sets the pending bit at PEND_FLIP and does nothing else. -/
theorem State.flipPairAfter_of_mayIntervene {s : State} {i : Instr} (h : s.mayIntervene i = true) :
    s.flipPairAfter i = (s.activeIndex, s.flipPending || decide (i = .pendFlip)) := by
  cases i with
  | flipNow | destroy => cases h
  | pendFlip => simp [State.flipPairAfter]
  | rasterize cpp line dest =>
    have hne : line ≠ s.topLine := by simpa [State.mayIntervene] using h
    simp [State.flipPairAfter, hne, State.flipPair]
  | _ => simp [State.flipPairAfter, State.flipPair]

theorem State.TurnsAway.sameFrame {s t : State} (h : s.TurnsAway t) : s.SameFrame t := by
  cases h <;> exact ⟨rfl, rfl, rfl, rfl, rfl, rfl, rfl⟩

theorem State.TurnsAway.mode_eq {s t : State} (h : s.TurnsAway t) : t.mode = s.mode := by
  cases h <;> rfl

/-- These instructions keep the frame and leave the block configured. -/
theorem State.Executes.sameFrame {s t : State} {i : Instr} (h : s.Executes i t) (hm : s.mode ≠ .unconfigured)
    (hi : s.mayIntervene i = true) : t.mode ≠ .unconfigured ∧ s.SameFrame t := by
  cases h with
  | turnedAway h => exact ⟨h.mode_eq ▸ hm, h.sameFrame⟩
  | constructed _ hu | starved _ hu => exact absurd hu hm
  | destroy | flipNow => cases hi
  | rasterizeOutside | rasterizeRow =>
    rw [State.atLine_of_ne (by simpa [State.mayIntervene] using hi)]
    exact ⟨hm, rfl, rfl, rfl, rfl, rfl, rfl, rfl⟩
  | backHalts => exact ⟨nofun, rfl, rfl, rfl, rfl, rfl, rfl, rfl⟩
  | pendFlip | getBackBuffer | backGranted | copyToBack | planeIsBitAddressable | setFgColor | setBgColor
  | setBackground | clrBackground | readReg => exact ⟨hm, rfl, rfl, rfl, rfl, rfl, rfl, rfl⟩

theorem sameFrame_of_execCommand {s t : State} {p : Port} {cmd : Command} (hm : s.mode ≠ .unconfigured)
    (hb : s.betweenConsumptions (.command p cmd) = true) (h : execCommand cmd s = .next t) :
    t.mode ≠ .unconfigured ∧ s.SameFrame t := by
  rcases executes_of_execCommand h with ⟨i, hd, hx⟩ | ha
  · exact hx.sameFrame hm ((State.betweenConsumptions_command hd).symm.trans hb)
  · exact ⟨ha.mode_eq ▸ hm, ha.sameFrame⟩

/-- A command taken between consumptions sets the pending bit exactly if it is PEND_FLIP. -/
theorem flipPending_of_execCommand {s t : State} {p : Port} {cmd : Command} (hm : s.mode = .ready)
    (hb : s.betweenConsumptions (.command p cmd) = true) (h : execCommand cmd s = .next t) :
    t.flipPending = (s.flipPending || s.requestsFlip (.command p cmd)) := by
  cases hd : decode s.platform.pixelWidth cmd with
  | ok i =>
    rw [execCommand_ok hd] at h
    rw [State.betweenConsumptions_command hd] at hb
    rw [State.requestsFlip_command hd]
    exact congrArg Prod.snd ((flipPair_of_exec hm h).trans (State.flipPairAfter_of_mayIntervene hb))
  | error e =>
    rw [execCommand_error hd, rejectIllegal, State.unlessHalted_running (by simp [hm])] at h
    cases h
    simp [State.requestsFlip_illegal hd]

/-! ### Every event between consumptions -/

theorem State.answer_sameFrame (s : State) (p : Port) (cmd : Command) : s.SameFrame (s.answer p cmd) := by
  obtain ⟨v, hv⟩ := s.answer_eq_setPort p cmd
  rw [hv]
  constructor <;> simp

@[simp] theorem State.answer_flipPair (s : State) (p : Port) (cmd : Command) :
    (s.answer p cmd).flipPair = s.flipPair := by
  obtain ⟨v, hv⟩ := s.answer_eq_setPort p cmd
  simp [hv, State.flipPair]

@[simp] theorem State.answer_mem (s : State) (p : Port) (cmd : Command) : (s.answer p cmd).mem = s.mem := by
  obtain ⟨v, hv⟩ := s.answer_eq_setPort p cmd
  simp [hv]

@[simp] theorem State.answer_pending (s : State) (p : Port) (cmd : Command) :
    (s.answer p cmd).pending = s.pending := by
  obtain ⟨v, hv⟩ := s.answer_eq_setPort p cmd
  simp [hv]

theorem State.Handles.sameFrame {s t : State} {e : Event} (h : s.Handles e t) (hm : s.mode ≠ .unconfigured)
    (hb : s.betweenConsumptions e = true) : t.mode ≠ .unconfigured ∧ s.SameFrame t := by
  cases h with
  | passedOver => exact ⟨hm, .refl s⟩
  | taken _ _ hu =>
    obtain ⟨hmode, hframe⟩ := sameFrame_of_execCommand hm hb hu
    exact ⟨by simpa using hmode, hframe.trans (State.answer_sameFrame _ _ _)⟩
  | wrote | fetched => exact ⟨hm, rfl, rfl, rfl, rfl, rfl, rfl, rfl⟩
  | @resetLevel asserted =>
    cases asserted with
    | false => exact ⟨hm, rfl, rfl, rfl, rfl, rfl, rfl, rfl⟩
    | true => cases hb

/-- HALTED is left by a reset alone (60_exceptions.md R210). -/
theorem State.Handles.halted {s t : State} {e : Event} (h : s.Handles e t) (hm : s.mode = .halted)
    (he : e ≠ .resetLine true) : t.mode = .halted := by
  cases h with
  | passedOver => exact hm
  | taken _ _ hu =>
    rw [execCommand_of_halted hm] at hu
    cases hu
    simpa using hm
  | wrote | fetched => exact hm
  | @resetLevel asserted =>
    cases asserted with
    | false => exact hm
    | true => exact absurd rfl he

theorem State.Handles.pending_eq {s t : State} {e : Event} (h : s.Handles e t) : t.pending = s.pending := by
  cases h with
  | passedOver | wrote | fetched => rfl
  | taken _ _ hu =>
    obtain ⟨_, _, _, _, _, _, hpending⟩ := execCommand_arena hu
    simpa using hpending
  | @resetLevel asserted => cases asserted <;> rfl

/-- At a block in READY no requester is stuck and reset is not asserted, so every command is taken. -/
theorem State.PortsSound.takes {s t : State} {p : Port} {cmd : Command} (hs : s.PortsSound) (hm : s.mode = .ready)
    (h : handle (.command p cmd) s = .next t) : ∃ u, execCommand cmd s = .next u ∧ t = u.answer p cmd := by
  have hr : s.resetAsserted = false := Bool.eq_false_iff.mpr fun hr => by simp [hs.resetHeld hr] at hm
  have running : ¬ s.Stops := by simp [State.Stops, hm]
  have hp : s.portStuck p = false := Bool.eq_false_iff.mpr fun hp => running <| hs.waiting <| by
    cases p with
    | T => exact .inl hp
    | D => exact .inr hp
  have htake : takeCommand p cmd s = .next t := h
  rw [takeCommand_free hr hp] at htake
  exact returnTo_next htake

/-- In READY an event between consumptions sets the pending bit exactly if it is a PEND_FLIP. -/
theorem State.PortsSound.flipPending_of_handle {s t : State} {e : Event} (hs : s.PortsSound) (hm : s.mode = .ready)
    (hb : s.betweenConsumptions e = true) (h : handle e s = .next t) :
    t.flipPending = (s.flipPending || s.requestsFlip e) := by
  cases e with
  | command p cmd =>
    obtain ⟨u, hu, rfl⟩ := hs.takes hm h
    rw [← flipPending_of_execCommand hm hb hu]
    exact congrArg Prod.snd (u.answer_flipPair p cmd)
  | write agent a n v =>
    have hw := handles_of_handle h
    cases hw <;> simp [State.requestsFlip]
  | read agent a n =>
    have hr := handles_of_handle h
    cases hr <;> simp [State.requestsFlip]
  | resetLine asserted =>
    cases asserted with
    | false =>
      cases h
      simp [setResetLine, State.requestsFlip]
    | true => cases hb

/-! ### Runs -/

theorem run_succ_next {M : Host.Core} {k : Nat} {s t : M.State} (h : M.run (k + 1) s = .next t) :
    ∃ u, M.step s = .next u ∧ M.run k u = .next t := by
  unfold Host.Core.run at h
  split at h
  · exact ⟨_, ‹_›, h⟩
  · cases h
  · cases h

/-- Induction over a run: what holds of the events handled so far and the state they lead to, and is kept by every event
that meets `Q`, holds at the end of a run all of whose events meet `Q`. -/
theorem run_induction {P : List Event → State → Prop} {Q : Event → Prop}
    (hadvance : ∀ {done s} rest, P done s → P done (s.advance rest))
    (hhandle : ∀ {done e s t}, Q e → P done s → handle e s = .next t → P (done ++ [e]) t)
    {k : Nat} {done : List Event} {s t : State} (hs : P done s) (hq : ∀ e ∈ s.pending.take k, Q e)
    (h : Host.Core.run Sys2Proof.core k s = .next t) : P (done ++ s.pending.take k) t := by
  induction k generalizing done s with
  | zero =>
    cases h
    simpa using hs
  | succ k ih =>
    obtain ⟨u, hu, hrun⟩ : ∃ u, step s = .next u ∧ Host.Core.run Sys2Proof.core k u = .next t := run_succ_next h
    cases hp : s.pending with
    | nil =>
      have hwait : step s = .next s := stepEvent_nil hp
      rw [hwait] at hu
      cases hu
      simpa [hp] using ih hs (by simp [hp]) hrun
    | cons e rest =>
      have hstep : handle e (s.advance rest) = .next u := (stepEvent_cons hp).symm.trans hu
      have hpend : u.pending = rest := (handles_of_handle hstep).pending_eq
      rw [hp] at hq
      obtain ⟨hqe, hqrest⟩ := List.forall_mem_cons.mp hq
      have hrest := ih (hhandle hqe (hadvance rest hs) hstep) (hpend ▸ hqrest) hrun
      simpa [hpend] using hrest

/-! ### Requests to flip between two consumptions (R133, R134) -/

/-- Where the events `done` have led from `s`, on the way to the next consumption: the frame is as it was, and the pending
bit records whether one of them asked for a flip. -/
structure State.Collects (s : State) (done : List Event) (t : State) : Prop where
  ports : t.PortsSound
  configured : t.mode ≠ .unconfigured
  frame : s.SameFrame t
  requests : t.mode = .ready → t.flipPending = (s.flipPending || done.any s.requestsFlip)

section
variable {s t u : State} {done : List Event} {e : Event}

theorem State.Collects.nil (hs : s.PortsSound) (hm : s.mode = .ready) : s.Collects [] s :=
  ⟨hs, by simp [hm], .refl s, fun _ => by simp⟩

theorem State.Collects.advance (h : s.Collects done t) (rest : List Event) : s.Collects done (t.advance rest) :=
  ⟨⟨h.ports.resetHeld, h.ports.waiting, h.ports.halted⟩, h.configured, h.frame.advance rest, h.requests⟩

theorem State.Collects.handle (h : s.Collects done t) (he : s.betweenConsumptions e = true)
    (hu : handle e t = .next u) : s.Collects (done ++ [e]) u := by
  have hb : t.betweenConsumptions e = true := (h.frame.betweenConsumptions e).trans he
  have hhandles : t.Handles e u := handles_of_handle hu
  obtain ⟨hmode, hframe⟩ := hhandles.sameFrame h.configured hb
  refine ⟨hhandles.portsSound h.ports, hmode, h.frame.trans hframe, fun hready => ?_⟩
  have ht : t.mode = .ready := by
    cases hm : t.mode with
    | ready => rfl
    | unconfigured => exact absurd hm h.configured
    | halted =>
      have hhalted := hhandles.halted hm (by rintro rfl; cases he)
      simp [hready] at hhalted
  rw [h.ports.flipPending_of_handle ht hb hu, h.requests ht, h.frame.requestsFlip]
  simp [Bool.or_assoc]

theorem State.Collects.of_run {k : Nat} (hs : s.PortsSound) (hm : s.mode = .ready)
    (he : ∀ e ∈ s.pending.take k, s.betweenConsumptions e = true)
    (h : Host.Core.run Sys2Proof.core k s = .next t) : s.Collects (s.pending.take k) t :=
  run_induction (P := s.Collects) (done := []) (fun rest hc => hc.advance rest) (fun hq hc => hc.handle hq)
    (.nil hs hm) he h

end

/-- The consumption: RASTERIZE of line TOP_LINE flips if a flip is pending, and clears the bit (41_rasterize.md R112). -/
theorem State.PortsSound.consumes {s t : State} {e : Event} (hs : s.PortsSound) (hm : s.mode = .ready)
    (he : s.rasterizesLine s.topLine e = true) (h : handle e s = .next t) :
    t.flipPair = (s.activeIndex != s.flipPending, false) := by
  cases e with
  | write | read | resetLine => cases he
  | command p cmd =>
    obtain ⟨u, hu, rfl⟩ := hs.takes hm h
    simp only [State.rasterizesLine] at he
    split at he
    · rename_i cpp line dest hd
      obtain rfl : line = s.topLine := beq_iff_eq.mp he
      rw [execCommand_ok hd] at hu
      rw [State.answer_flipPair, flipPair_of_exec hm hu, State.flipPairAfter, if_pos rfl]
      cases s.flipPending <;> simp
    · cases he

/-! ### The front plane while a frame is shown (R135) -/

/-- What keeps the frame may come between two consumptions. -/
theorem State.betweenConsumptions_of_keepsFrame {s : State} {e : Event} (h : s.keepsFrame e = true) :
    s.betweenConsumptions e = true := by
  cases e with
  | command p cmd =>
    cases hd : decode s.platform.pixelWidth cmd with
    | error => simp [State.betweenConsumptions, hd]
    | ok i =>
      simp only [State.keepsFrame, hd] at h
      rw [State.betweenConsumptions_command hd]
      cases i with
      | flipNow | destroy => cases h
      | rasterize cpp line dest => exact (Bool.and_eq_true _ _ ▸ h).1
      | _ => rfl
  | write | read => rfl
  | resetLine asserted => exact h

/-- A range that spares the front plane has none of its bytes. -/
theorem State.outside_of_sparesFront {s : State} {a n b : Nat} (h : s.sparesFront a n = true)
    (hlo : s.frontBase.toNat ≤ b) (hhi : b < s.frontBase.toNat + s.planeBytes) : b < a ∨ a + n ≤ b := by
  have hapart : Apart a n s.frontBase.toNat s.planeBytes :=
    rangesOverlap_eq_false.mp (by simpa [State.sparesFront] using h)
  unfold Apart at hapart
  omega

/-- The copy goes to the back plane, which is apart from the front plane. -/
theorem State.read_copyWords_front {s : State} {b : Nat} (hp : s.planeWords = 0 ∨ s.planesValid = true)
    (hlo : s.frontBase.toNat ≤ b) (hhi : b < s.frontBase.toNat + s.planeBytes) :
    (copyWords s.mem s.frontBase.toNat s.backBase.toNat s.planeWords).read b = s.mem.read b := by
  refine read_copyWords_outside ?_
  rcases hp with h0 | hv
  · simp only [State.planeBytes, h0] at hhi
    omega
  · obtain ⟨_, _, hapart⟩ := State.planesValid_iff.mp hv
    simp only [State.planeBytes] at hapart hhi
    unfold Apart at hapart
    omega

/-- Of all commands only a drawn row can write the front plane. -/
theorem State.Executes.agreesOnFront {s t : State} {i : Instr} (h : s.Executes i t)
    (hr : ∀ cpp line dest, i = .rasterize cpp line dest →
      line ≠ s.topLine ∧ s.sparesFront dest.toNat s.pixelRowBytes = true) :
    s.mem.AgreesOn t.mem s.frontBase.toNat s.planeBytes := by
  intro b hlo hhi
  cases h with
  | turnedAway h => rw [h.mem_eq]
  | rasterizeOutside => rw [State.respond_mem, State.atLine_mem]
  | rasterizeRow =>
    obtain ⟨hline, hdest⟩ := hr _ _ _ rfl
    rw [State.atLine_of_ne hline]
    exact State.read_expandRow_outside (State.outside_of_sparesFront hdest hlo hhi)
  | copyToBack _ hp => exact State.read_copyWords_front hp hlo hhi
  | constructed | starved | destroy | pendFlip | flipNow | getBackBuffer | backGranted | backHalts
  | planeIsBitAddressable | setFgColor | setBgColor | setBackground | clrBackground | readReg => rfl

/-- A row that keeps the frame is not line TOP_LINE's and is drawn beside the front plane. -/
theorem State.row_of_keepsFrame {s : State} {p : Port} {cmd : Command} {cpp : Cpp} {line : Dim} {dest : Addr}
    (hd : decode s.platform.pixelWidth cmd = .ok (.rasterize cpp line dest))
    (h : s.keepsFrame (.command p cmd) = true) :
    line ≠ s.topLine ∧ s.sparesFront dest.toNat s.pixelRowBytes = true := by
  simpa [State.keepsFrame, hd] using h

theorem State.Handles.agreesOnFront {s t : State} {e : Event} (h : s.Handles e t) (hk : s.keepsFrame e = true) :
    s.mem.AgreesOn t.mem s.frontBase.toNat s.planeBytes := by
  cases h with
  | passedOver | fetched => exact fun _ _ _ => rfl
  | taken _ _ hu =>
    rw [State.answer_mem]
    rcases executes_of_execCommand hu with ⟨i, hd, hx⟩ | ha
    · exact hx.agreesOnFront fun cpp line dest hi => State.row_of_keepsFrame (hi ▸ hd) hk
    · exact fun _ _ _ => by rw [ha.mem_eq]
  | wrote => exact fun b hlo hhi => Memory.read_writeNat_outside _ (State.outside_of_sparesFront hk hlo hhi)
  | @resetLevel asserted => cases asserted <;> exact fun _ _ _ => rfl

/-- The frame of `s` is whole in `t`: read through the same variables, from a plane with the same bytes. -/
structure State.FrameWhole (s t : State) : Prop where
  configured : t.mode ≠ .unconfigured
  frame : s.SameFrame t
  bytes : s.mem.AgreesOn t.mem s.frontBase.toNat s.planeBytes

section
variable {s t u : State} {e : Event}

theorem State.FrameWhole.refl (hm : s.mode ≠ .unconfigured) : s.FrameWhole s := ⟨hm, .refl s, fun _ _ _ => rfl⟩

theorem State.FrameWhole.advance (h : s.FrameWhole t) (rest : List Event) : s.FrameWhole (t.advance rest) :=
  ⟨h.configured, h.frame.advance rest, h.bytes⟩

theorem State.FrameWhole.handle (h : s.FrameWhole t) (he : s.keepsFrame e = true) (hu : handle e t = .next u) :
    s.FrameWhole u := by
  have hk : t.keepsFrame e = true := (h.frame.keepsFrame e).trans he
  have hhandles : t.Handles e u := handles_of_handle hu
  obtain ⟨hmode, hframe⟩ := hhandles.sameFrame h.configured (State.betweenConsumptions_of_keepsFrame hk)
  have hfront := hhandles.agreesOnFront hk
  rw [h.frame.frontBase, h.frame.planeBytes] at hfront
  exact ⟨hmode, h.frame.trans hframe, fun b hlo hhi => (hfront b hlo hhi).trans (h.bytes b hlo hhi)⟩

theorem State.FrameWhole.of_run {k : Nat} (hm : s.mode ≠ .unconfigured)
    (he : ∀ e ∈ s.pending.take k, s.keepsFrame e = true) (h : Host.Core.run Sys2Proof.core k s = .next t) :
    s.FrameWhole t :=
  run_induction (P := fun _ => s.FrameWhole) (done := []) (fun rest hw => hw.advance rest) (fun hq hw => hw.handle hq)
    (.refl hm) he h

/-- Row `row` lies inside its plane. -/
theorem State.agreesOn_sourceRow {m : Memory} {row : Nat} (hrow : row < s.height.toNat)
    (h : s.mem.AgreesOn m s.frontBase.toNat s.planeBytes) : s.mem.AgreesOn m (s.sourceRow row) s.rowBytes := by
  have hplane : s.planeBytes = s.height.toNat * s.rowBytes := by
    rw [State.planeBytes, State.planeWords, State.rowBytes, Nat.mul_comm s.wpl.toNat, Nat.mul_assoc]
  have hsrc : s.sourceRow row = s.frontBase.toNat + row * s.rowBytes := by
    rw [State.sourceRow, State.rowBytes, Nat.mul_assoc]
  rw [hplane] at h
  rw [hsrc]
  exact h.entry hrow

theorem State.FrameWhole.packedPixel_eq (h : s.FrameWhole t) {row x : Nat} (hrow : row < s.height.toNat)
    (hx : x < s.rowPixels) :
    packedPixel t.platform.bitOrder t.mem (t.sourceRow row) x =
      packedPixel s.platform.bitOrder s.mem (s.sourceRow row) x := by
  rw [h.frame.platform, h.frame.sourceRow]
  exact packedPixel_congr _ (State.agreesOn_sourceRow hrow h.bytes) hx

end

end Sys2Proof.Machine

namespace Sys2Proof.Proofs

open Sys2Proof.Machine

/-- Settles O32: up to the consumption the pending bit collects the requests; the consumption flips if it is set. -/
theorem flipRequestsCoalesce : Obligations.FlipRequestsCoalesce := by
  intro k s t u e rest hinv hm hbetween hrun ht hpend hline hu
  obtain ⟨_, hports⟩ := State.inv_iff.mp hinv
  have hc : s.Collects (s.pending.take k) (t.advance rest) := (State.Collects.of_run hports hm hbetween hrun).advance rest
  have hline' : (t.advance rest).rasterizesLine (t.advance rest).topLine e = true := by
    rw [hc.frame.rasterizesLine, hc.frame.topLine]
    exact hline
  have hstep : handle e (t.advance rest) = .next u := (stepEvent_cons hpend).symm.trans hu
  have hpair := hc.ports.consumes ht hline' hstep
  rw [hc.frame.activeIndex, hc.requests ht] at hpair
  exact ⟨hc.frame.activeIndex, congrArg Prod.fst hpair, congrArg Prod.snd hpair⟩

/-- Settles O33: every event that keeps the frame keeps it whole, so every run of them does. -/
theorem frameIsReadFromOneUnchangedPlane : Obligations.FrameIsReadFromOneUnchangedPlane := by
  intro k s t _ hm hkeeps hrun
  have hw : s.FrameWhole t := State.FrameWhole.of_run hm hkeeps hrun
  exact ⟨hw.frame.activeIndex, hw.frame.frontBase, hw.frame.wpl, hw.frame.height, hw.frame.topLine, hw.bytes,
    fun _ _ => hw.packedPixel_eq⟩

/-- Settles O29: the encoding from the decoder's inverse, the effect from the admission check. -/
theorem pendFlipSetsThePendingFlag : Obligations.PendFlipSetsThePendingFlag := by
  obtain ⟨hsole, hillegal⟩ := decode_of_sole_encoding encode_pendFlip (fun _ => rfl) fun _ => Instr.eq_pendFlip_of_opc
  exact ⟨hsole, hillegal, fun _ => exec_by_mode (i := .pendFlip) rfl⟩

/-- Settles O30: the encoding from the decoder's inverse, the effect from the admission check. -/
theorem flipNowTogglesTheActivePlane : Obligations.FlipNowTogglesTheActivePlane := by
  obtain ⟨hsole, hillegal⟩ := decode_of_sole_encoding encode_flipNow (fun _ => rfl) fun _ => Instr.eq_flipNow_of_opc
  exact ⟨hsole, hillegal, fun _ => exec_by_mode (i := .flipNow) rfl⟩

/-- Settles O31: the table by cases on the command, INIT's entry from `State.built`, reset from the cleared block. -/
theorem flipFsmTransitions : Obligations.FlipFsmTransitions := by
  refine ⟨fun s t i hm h => ?_, fun s t i hm h ht => ?_, fun s t rest hpend h => ?_⟩
  · refine (flipPair_of_exec hm h).trans ?_
    cases i <;> rfl
  · obtain ⟨_, _, _, _, _, _, rfl⟩ := (executes_of_exec h).built_of_ready hm ht
    rfl
  · have hstep : step s = .next (setResetLine true (s.advance rest)) := stepEvent_cons hpend
    rw [hstep] at h
    cases h
    rfl

end Sys2Proof.Proofs

/-! The statements from 43_backbuffer.md: GET_BACK_BUFFER describes the back plane (R140), MAKE_BACK_GRAPHICS grants it or
halts the block (R141; 60_exceptions.md R202), COPY_TO_BACK seeds it from the front plane (R142). -/

namespace Sys2Proof

theorem encode_getBackBuffer : encode .getBackBuffer = 0x30000000000000000000000000000000 := by decide

theorem Instr.eq_getBackBuffer_of_opc {j : Instr} (h : (encode j).opc = 0x30) : j = .getBackBuffer := by
  cases j with
  | getBackBuffer => rfl
  | _ => simp [encode] at h

end Sys2Proof

namespace Sys2Proof.Machine

/-! ### The back plane and its descriptor (00_scope.md R12; R140) -/

/-- The front plane is `PLANE_BASE[ACTIVE_INDEX]`. -/
theorem State.frontBase_eq (s : State) : s.frontBase = if s.activeIndex then s.planeBase1 else s.planeBase0 := rfl

/-- The back plane is the one ACTIVE_INDEX does not name. -/
theorem State.backBase_eq (s : State) : s.backBase = if s.activeIndex then s.planeBase0 else s.planeBase1 := by
  cases h : s.activeIndex <;> simp [State.backBase, State.planeBase, h]

/-- The descriptor's lengths are the variables' values, zero extended. -/
theorem State.describeBack_eq (s : State) :
    s.describeBack =
      { s with
        response := some ⟨.ok, s.backBase, BitVec.ofNat 32 s.width.toNat, BitVec.ofNat 32 s.height.toNat,
          BitVec.ofNat 32 s.wpl.toNat⟩ } := by
  simp only [BitVec.ofNat_toNat]
  rfl

section
variable {s : State}

/-! ### The windows (20_memory.md R60), and the plane MAKE_BACK_GRAPHICS grants (R141) -/

theorem windowHolds_iff {w : Window} {a : Nat} : windowHolds w a = true ↔ w.lo ≤ a ∧ a < w.hi := by
  simp [windowHolds]

theorem State.bitAddressable_iff {base : Addr} : s.bitAddressable base = true ↔
    (s.platform.lowWindow.lo ≤ base.toNat ∧ base.toNat < s.platform.lowWindow.hi ∨
      s.platform.highWindow.lo ≤ base.toNat ∧ base.toNat < s.platform.highWindow.hi) := by
  rw [State.bitAddressable, inWindow, Bool.or_eq_true, windowHolds_iff, windowHolds_iff]

theorem exec_makeBackGraphics_of_addressable (hm : s.mode = .ready) (hb : s.bitAddressable s.backBase = true) :
    exec .makeBackGraphics s = .next s.describeBack :=
  (State.whenReady_ready hm _).trans (by rw [if_pos hb])

theorem exec_makeBackGraphics_of_not_addressable (hm : s.mode = .ready) (hb : ¬ s.bitAddressable s.backBase = true) :
    exec .makeBackGraphics s = .next s.raiseFatal :=
  (State.whenReady_ready hm _).trans (by rw [if_neg hb])

/-! ### The copy of COPY_TO_BACK (R142; 47_external_units.md R180) -/

/-- What memory holds once the front plane's words stand in the back plane. -/
def State.seededMem (s : State) : Memory := copyWords s.mem s.frontBase.toNat s.backBase.toNat s.planeWords

theorem exec_copyToBack_of_allowed (hm : s.mode = .ready) (hp : s.PlanesAllowed) :
    exec .copyToBack s = .next { s with mem := s.seededMem }.done :=
  (State.whenReady_ready hm _).trans (by rw [State.copyFrontToBack_of_allowed hp]; rfl)

theorem State.readWord_seededMem_back {j : Nat} (hj : j < s.planeWords) :
    s.seededMem.readWord (s.backBase.toNat + j * Config.wordBytes) =
      s.mem.readWord (s.frontBase.toNat + j * Config.wordBytes) :=
  readWord_copyWords hj

/-- The planes do not overlap, so the copy leaves each word of its source as it was. -/
theorem State.readWord_seededMem_front (hp : s.PlanesAllowed) {j : Nat} (hj : j < s.planeWords) :
    s.seededMem.readWord (s.frontBase.toNat + j * Config.wordBytes) =
      s.mem.readWord (s.frontBase.toNat + j * Config.wordBytes) := by
  have hplane : s.mem.AgreesOn s.seededMem s.frontBase.toNat (s.planeWords * Config.wordBytes) :=
    fun _ => State.read_copyWords_front (.inr (State.planesValid_of_allowed hp))
  exact (hplane.entry hj).readWord_eq

theorem State.read_seededMem_outside {b : Nat} (h : b < s.backBase.toNat ∨ s.backBase.toNat + s.planeBytes ≤ b) :
    s.seededMem.read b = s.mem.read b :=
  read_copyWords_outside h

end

end Sys2Proof.Machine

namespace Sys2Proof.Proofs

open Sys2Proof.Machine

/-- Settles O34: the encoding from the decoder's inverse, the effect from the admission check. -/
theorem getBackBufferDescribesTheBackPlane : Obligations.GetBackBufferDescribesTheBackPlane := by
  obtain ⟨hsole, hillegal⟩ :=
    decode_of_sole_encoding encode_getBackBuffer (fun _ => rfl) fun _ => Instr.eq_getBackBuffer_of_opc
  refine ⟨hsole, hillegal, fun s => ?_⟩
  have hmode := exec_by_mode (i := .getBackBuffer) (s := s) rfl
  rw [State.describeBack_eq, State.backBase_eq] at hmode
  exact hmode

/-- Settles O38: the planes are apart, so the copy writes the back plane and neither the front plane nor another byte. -/
theorem copyToBackSeedsTheBackPlane : Obligations.CopyToBackSeedsTheBackPlane := by
  intro s front back hm hp hfront hback
  rw [← State.frontBase_eq] at hfront
  rw [← State.backBase_eq] at hback
  subst hfront hback
  exact ⟨_, exec_copyToBack_of_allowed hm hp, rfl, rfl,
    fun _ hj => ⟨State.readWord_seededMem_back hj, State.readWord_seededMem_front hp hj⟩,
    fun _ hb => State.read_seededMem_outside hb⟩

/-- Settles O35: a base in a window is bit-addressable, so the descriptor is returned. -/
theorem makeBackGraphicsGrantsAnAddressablePlane : Obligations.MakeBackGraphicsGrantsAnAddressablePlane := by
  intro s base hm hbase hw
  rw [← State.backBase_eq] at hbase
  subst hbase
  rw [exec_makeBackGraphics_of_addressable hm (State.bitAddressable_iff.mpr hw), State.describeBack_eq]

/-- Settles O36: a base outside both windows is not bit-addressable, so the fatal halt is raised. -/
theorem addressabilityViolationHalts : Obligations.AddressabilityViolationHalts := by
  intro s base hm hbase hlow hhigh
  rw [← State.backBase_eq] at hbase
  subst hbase
  have hb : ¬ s.bitAddressable s.backBase = true := by
    rw [State.bitAddressable_iff]
    omega
  exact ⟨_, exec_makeBackGraphics_of_not_addressable hm hb, rfl, rfl⟩

end Sys2Proof.Proofs

/-! The statements from 44_addressability.md: PLANE_IS_BIT_ADDRESSABLE tests the base its selector names (R150, R151), and
answers the same until a command gives that selector another plane (R152). -/

namespace Sys2Proof.Machine

section
variable {s t : State} {sel : Selector}

/-! ### What the query answers (R150, R151) -/

theorem flagBit_eq_ite {b : Bool} {p : Prop} [Decidable p] (h : b = true ↔ p) : flagBit b = if p then 1 else 0 :=
  if_congr h rfl rfl

/-- The query's answer: the flag R0 and three zero words. -/
def State.queryResponse (s : State) (sel : Selector) : Response :=
  ⟨.ok, flagBit (s.bitAddressable (s.selectedBase sel)), 0, 0, 0⟩

theorem exec_planeIsBitAddressable_of_ready (hm : s.mode = .ready) :
    exec (.planeIsBitAddressable sel) s = .next { s with response := some (s.queryResponse sel) } :=
  State.whenReady_ready hm _

/-! ### What the answer depends on (R152) -/

/-- READY admits no construction, so of its commands DESTROY alone writes the plane bases. -/
theorem planeBases_of_exec {i : Instr} (hm : s.mode = .ready) (hd : i ≠ .destroy) (h : exec i s = .next t) :
    t.planeBase0 = s.planeBase0 ∧ t.planeBase1 = s.planeBase1 := by
  cases i with
  | init | initBg =>
    cases (State.whenUnconfigured_ready hm _).symm.trans h
    exact ⟨rfl, rfl⟩
  | destroy => exact absurd rfl hd
  | _ =>
    obtain ⟨_, hvars⟩ := (executes_of_exec h).writesItsOwn
    obtain ⟨_, _, hblock⟩ := hvars nofun nofun
    obtain ⟨_, _, _, _, h0, h1, _⟩ := hblock hd
    exact ⟨h0, h1⟩

/-- A selector by index names the same plane whatever ACTIVE_INDEX is, one by role as long as ACTIVE_INDEX stays. -/
theorem State.selectedBase_congr (h0 : t.planeBase0 = s.planeBase0) (h1 : t.planeBase1 = s.planeBase1)
    (ha : sel = .front ∨ sel = .back → t.activeIndex = s.activeIndex) : t.selectedBase sel = s.selectedBase sel := by
  cases sel with
  | p0 => exact h0
  | p1 => exact h1
  | front => simp only [State.selectedBase, State.frontBase_eq, h0, h1, ha (.inl rfl)]
  | back => simp only [State.selectedBase, State.backBase_eq, h0, h1, ha (.inr rfl)]

theorem State.queryResponse_congr (hp : t.platform = s.platform) (hb : t.selectedBase sel = s.selectedBase sel) :
    t.queryResponse sel = s.queryResponse sel := by
  simp only [State.queryResponse, State.bitAddressable, hp, hb]

end

end Sys2Proof.Machine

namespace Sys2Proof.Proofs

open Sys2Proof.Machine

/-- Settles O40: the windows never change, and the base a selector names changes only with the plane bases or, for FRONT
and BACK, with ACTIVE_INDEX. -/
theorem planeQueryIsIdempotent : Obligations.PlaneQueryIsIdempotent := by
  intro s t i sel hs hd h ht ha
  obtain ⟨h0, h1⟩ := planeBases_of_exec hs hd h
  obtain ⟨⟨hplatform, _⟩, _⟩ := (executes_of_exec h).writesItsOwn
  have hbase : t.selectedBase sel = s.selectedBase sel := State.selectedBase_congr h0 h1 ha
  exact ⟨_, _, exec_planeIsBitAddressable_of_ready hs, exec_planeIsBitAddressable_of_ready ht,
    congrArg some (State.queryResponse_congr hplatform hbase)⟩

/-- Settles O39: the flag returned is the test of the selected base against the two windows. -/
theorem planeQueryTestsTheBaseAddress : Obligations.PlaneQueryTestsTheBaseAddress := by
  intro s sel base hm hbase
  have hsel : s.selectedBase sel = base := by
    rw [hbase]
    cases sel with
    | p0 | p1 => rfl
    | front => exact s.frontBase_eq
    | back => exact s.backBase_eq
  rw [exec_planeIsBitAddressable_of_ready hm, State.queryResponse, hsel, flagBit_eq_ite State.bitAddressable_iff]

end Sys2Proof.Proofs

/-! The statements from 45_palette_background.md: the two color commands write the palette (R160, R161), the two background
commands the background reference (R162, R163), and a row is drawn in the colors set last (R164). -/

namespace Sys2Proof

/-! ### The encodings of a color command (R82, R84, R85) -/

/-- A command in format `C`: its word W0, the color, and two zero words. -/
theorem pack_color_eq_append (o : BitVec 8) (color : Pixel) :
    Command.pack o 0 color 0 0 = (o ++ (0 : BitVec 24) : BitVec 32) ++ color ++ (0 : BitVec 64) := by
  apply BitVec.eq_of_toNat_eq
  rw [pack_eq_append]
  simp only [Machine.toNat_append_eq_add, BitVec.ofNat_eq_ofNat, BitVec.toNat_ofNat]
  ring

theorem encode_setFgColor (color : Pixel) :
    encode (.setFgColor color) = (0x50000000 : BitVec 32) ++ color ++ (0 : BitVec 64) :=
  pack_color_eq_append 0x50 color

theorem encode_setBgColor (color : Pixel) :
    encode (.setBgColor color) = (0x51000000 : BitVec 32) ++ color ++ (0 : BitVec 64) :=
  pack_color_eq_append 0x51 color

theorem Instr.eq_setFgColor_of_opc {j : Instr} (h : (encode j).opc = 0x50) : ∃ color, j = .setFgColor color := by
  cases j with
  | setFgColor color => exact ⟨color, rfl⟩
  | _ => simp [encode] at h

theorem Instr.eq_setBgColor_of_opc {j : Instr} (h : (encode j).opc = 0x51) : ∃ color, j = .setBgColor color := by
  cases j with
  | setBgColor color => exact ⟨color, rfl⟩
  | _ => simp [encode] at h

/-- A color command, alone under its opcode `o`, has one encoding for each PIXW-bit color, and every other command with that
opcode is illegal. -/
theorem decode_of_color_encodings {f : Pixel → Instr} {o : BitVec 8} {code : Pixel → Command}
    (he : ∀ color, encode (f color) = code color) (hw : ∀ w color, (f color).wellFormed w = w.fits color)
    (only : ∀ j : Instr, (encode j).opc = o → ∃ color, j = f color) :
    (∀ (w : PixelWidth) (c : Command) (color : Pixel),
      decode w c = .ok (f color) ↔ c = code color ∧ color.toNat < 2 ^ w.bits) ∧
    ∀ (w : PixelWidth) (c : Command), c.opc = o → (∀ color, decode w c ≠ .ok (f color)) →
      ∃ e, decode w c = .error e := by
  constructor
  · intro w c color
    rw [decode_eq_ok_iff, Instr.WellFormed, hw, PixelWidth.fits_iff, he, and_comm, eq_comm]
  · intro w c ho hc
    cases hd : decode w c with
    | error e => exact ⟨e, rfl⟩
    | ok j =>
      obtain ⟨_, hj⟩ := encode_of_decode hd
      obtain ⟨color, rfl⟩ := only j (hj ▸ ho)
      exact absurd hd (hc color)

end Sys2Proof

namespace Sys2Proof.Machine

/-! ### What a color command answers (R160, R161) -/

/-- What each MODE answers to a color command, by whether the color has PIXW bits. -/
theorem exec_color_by_mode {s : State} {i : Instr} {color : Pixel} {e : Result} (h : exec i s = s.withColor color e) :
    (s.mode = .ready → color.toNat < 2 ^ s.platform.pixelWidth.bits → exec i s = e) ∧
      (s.mode ≠ .halted → 2 ^ s.platform.pixelWidth.bits ≤ color.toNat → exec i s = .next (s.reject .errIllegal)) ∧
      (s.mode = .unconfigured → color.toNat < 2 ^ s.platform.pixelWidth.bits → exec i s = .next (s.reject .errState)) ∧
      (s.mode = .halted → exec i s = .next s.noResponse) := by
  have admitted (hc : color.toNat < 2 ^ s.platform.pixelWidth.bits) : exec i s = s.whenReady e :=
    h.trans (State.withColor_fits (PixelWidth.fits_iff.mpr hc) e)
  refine ⟨fun hm hc => ?ready, fun hm hc => ?wide, fun hm hc => ?unconfigured, exec_of_halted (i := i)⟩
  case ready => exact (admitted hc).trans (State.whenReady_ready hm e)
  case unconfigured => exact (admitted hc).trans (State.whenReady_unconfigured hm e)
  case wide =>
    have hwide : s.platform.pixelWidth.fits color = false := by simpa [PixelWidth.fits] using hc
    rw [h, State.withColor_illegal hwide, State.unlessHalted_running hm]

/-- The state after a color command: the palette, and the answer OK without results. -/
def State.withColors (s : State) (bg fg : Pixel) : State := { s with palette0 := bg, palette1 := fg }.done

section
variable {s t : State} {color : Pixel}

theorem eq_of_exec_setFgColor (hm : s.mode = .ready) (hc : color.toNat < 2 ^ s.platform.pixelWidth.bits)
    (h : exec (.setFgColor color) s = .next t) : t = s.withColors s.palette0 color := by
  obtain ⟨hready, _⟩ := exec_color_by_mode (s := s) (i := .setFgColor color) rfl
  cases (hready hm hc).symm.trans h
  rfl

theorem eq_of_exec_setBgColor (hm : s.mode = .ready) (hc : color.toNat < 2 ^ s.platform.pixelWidth.bits)
    (h : exec (.setBgColor color) s = .next t) : t = s.withColors color s.palette1 := by
  obtain ⟨hready, _⟩ := exec_color_by_mode (s := s) (i := .setBgColor color) rfl
  cases (hready hm hc).symm.trans h
  rfl

end

/-! ### The pixels of the next row (41_rasterize.md R112, R114, R115) -/

section
variable {s t : State} {cpp : Cpp} {line : Dim} {dest : Addr} {row x : Nat}

/-- Pixel `x` of the plane row that a RASTERIZE of local row `row` expands: at row 0 a pending flip is consumed first. -/
def State.shownBit (s : State) (row x : Nat) : Bool :=
  packedPixel s.platform.bitOrder s.mem
    ((if row = 0 ∧ s.flipPending = true then s.backBase else s.frontBase).toNat + row * s.wpl.toNat * 4) x

/-- The pixel of the background image behind pixel `x` of local row `row`. -/
def State.behindPixel (s : State) (row x : Nat) : Pixel :=
  s.mem.readPixel s.platform.pixelWidth (s.bgBase.toNat + row * s.wpl.toNat * 32 * s.pixBytes + x * s.pixBytes)

/-- The value step 4b gives a pixel, from the state before the command. -/
theorem State.drawnPixel_atLine (hl : line.toNat = s.topLine.toNat + row) :
    (s.atLine line).drawnPixel row x =
      if s.shownBit row x then s.palette1
      else if s.bgPresent then
        blendUnset s.platform.pixelWidth s.platform.blend s.palette0 (s.behindPixel row x)
      else s.palette0 := by
  have hsource := State.atLine_sourceRow (State.localRow_of_line hl) row
  cases hb : s.bgPresent <;>
    simp [State.drawnPixel, overlayPixel, plainPixel, hsource, State.atLine_backgroundRow, hb, State.shownBit,
      State.behindPixel, State.pixBytes]

/-- A RASTERIZE of a line in range that completes leaves in its destination row the values of step 4b. -/
theorem readPixel_of_exec_rasterize (hm : s.mode = .ready) (hp : s.PaletteFits)
    (hl : line.toNat = s.topLine.toNat + row) (hh : row < s.height.toNat)
    (h : exec (.rasterize cpp line dest) s = .next t) (hx : x < s.rowPixels) :
    t.mem.readPixel s.platform.pixelWidth (dest.toNat + x * s.pixBytes) = (s.atLine line).drawnPixel row x := by
  have hp' : (s.atLine line).PaletteFits := by simpa [State.PaletteFits] using hp
  have hx' : x < (s.atLine line).rowPixels := by simpa using hx
  rw [mem_of_exec_rasterize hm (State.localRow_of_line hl) hh h]
  simpa using State.readPixel_expandRow hp' row dest.toNat hx'

/-- The row drawn after the colors are set shows them, over bits and a background they do not change. -/
theorem readPixel_after_colors {bg fg : Pixel} (hm : s.mode = .ready) (hbg : s.platform.pixelWidth.fits bg = true)
    (hfg : s.platform.pixelWidth.fits fg = true) (hl : line.toNat = s.topLine.toNat + row) (hh : row < s.height.toNat)
    (h : exec (.rasterize cpp line dest) (s.withColors bg fg) = .next t) (hx : x < s.rowPixels) :
    t.mem.readPixel s.platform.pixelWidth (dest.toNat + x * s.pixBytes) =
      if s.shownBit row x then fg
      else if s.bgPresent then blendUnset s.platform.pixelWidth s.platform.blend bg (s.behindPixel row x)
      else bg :=
  (readPixel_of_exec_rasterize (s := s.withColors bg fg) hm ⟨hbg, hfg⟩ hl hh h hx).trans (State.drawnPixel_atLine hl)

end

end Sys2Proof.Machine

namespace Sys2Proof.Proofs

open Sys2Proof.Machine

/-- Settles O41: the encodings from the decoder's inverse, the answers from the admission of a color, the pixels from the
row that RASTERIZE draws. -/
theorem setFgColorWritesPaletteEntryOne : Obligations.SetFgColorWritesPaletteEntryOne := by
  obtain ⟨hencodings, hillegal⟩ :=
    decode_of_color_encodings encode_setFgColor (fun _ _ => rfl) fun _ => Instr.eq_setFgColor_of_opc
  refine ⟨hencodings, hillegal, fun s color => ?_⟩
  obtain ⟨hready, hwide, hunconfigured, hhalted⟩ := exec_color_by_mode (s := s) (i := .setFgColor color) rfl
  refine ⟨hready, hwide, hunconfigured, hhalted, ?_⟩
  rintro v t cpp line dest row x hm ⟨hp0, _⟩ hc hv ht hl hh hx hset
  obtain rfl := eq_of_exec_setFgColor hm hc hv
  have hpixel := readPixel_after_colors hm hp0 (PixelWidth.fits_iff.mpr hc) hl hh ht hx
  exact hpixel.trans (if_pos hset)

/-- Settles O42: as for O41; an unset bit shows palette entry 0, or the image where the default blend lays it under. -/
theorem setBgColorWritesPaletteEntryZero : Obligations.SetBgColorWritesPaletteEntryZero := by
  obtain ⟨hencodings, hillegal⟩ :=
    decode_of_color_encodings encode_setBgColor (fun _ _ => rfl) fun _ => Instr.eq_setBgColor_of_opc
  refine ⟨hencodings, hillegal, fun s color => ?_⟩
  obtain ⟨hready, hwide, hunconfigured, hhalted⟩ := exec_color_by_mode (s := s) (i := .setBgColor color) rfl
  refine ⟨hready, hwide, hunconfigured, hhalted, ?_⟩
  rintro v t cpp line dest row x hm ⟨_, hp1⟩ hc hv ht hl hh hx hunset
  obtain rfl := eq_of_exec_setBgColor hm hc hv
  have hbit : s.shownBit row x = false := hunset
  have hpixel := readPixel_after_colors hm (PixelWidth.fits_iff.mpr hc) hp1 hl hh ht hx
  refine ⟨fun hb => ?plain, fun hb hblend => ?overlay⟩
  case plain => simpa [hbit, hb] using hpixel
  case overlay => simpa [hbit, hb, hblend, blendUnset, State.behindPixel] using hpixel

/-- Settles O45: the pattern is the plane row's bits, which neither color command touches. -/
theorem colorChangeShowsFromTheNextRow : Obligations.ColorChangeShowsFromTheNextRow := by
  intro s cpp line dest hm hb
  refine ⟨s.shownBit (line.toNat - s.topLine.toNat), ?_⟩
  intro v t u fg bg hfg hbg hv ht hu hlo hhi x hx
  obtain rfl := eq_of_exec_setFgColor hm hfg hv
  obtain rfl : t = s.withColors bg fg := eq_of_exec_setBgColor (s := s.withColors s.palette0 fg) hm hbg ht
  have hl : line.toNat = s.topLine.toNat + (line.toNat - s.topLine.toNat) := by omega
  have hh : line.toNat - s.topLine.toNat < s.height.toNat := by omega
  have hpixel := readPixel_after_colors hm (PixelWidth.fits_iff.mpr hbg) (PixelWidth.fits_iff.mpr hfg) hl hh hu hx
  simpa [hb] using hpixel

/-- Settles O44: both commands need READY alone. -/
theorem backgroundCommandsWriteTheReference : Obligations.BackgroundCommandsWriteTheReference :=
  fun _ _ hm => ⟨State.whenReady_ready hm _, State.whenReady_ready hm _⟩

end Sys2Proof.Proofs

/-! The statements from 46_status.md: what READ_REG returns (R170; 10_state.md R29, R30), and the worked command words of
95_test_vectors.md, READ_REG's among them. -/

namespace Sys2Proof

/-! ### A color of more than PIXW bits (30_encoding.md R82, R85) -/

/-- In format `C` the bits of `W1` above PIXW are unassigned. -/
theorem decodeC_pack_wide {w : PixelWidth} {color : Pixel} (h : w.fits color = false) (o : BitVec 8)
    (f : Pixel → Instr) : decodeC w (Command.pack o 0#8 color 0#32 0#32) f = .error .reservedOperandBits := by
  simp [decodeC, acceptIf, h]

theorem decode_encode_setFgColor_wide {w : PixelWidth} {color : Pixel} (h : w.fits color = false) :
    decode w (encode (.setFgColor color)) = .error .reservedOperandBits := by
  simp [encode, decodeFields, decodeC_pack_wide h]

end Sys2Proof

namespace Sys2Proof.Machine

/-! ### The register file (10_state.md R29, R30) -/

/-- Flags in bits 0 to 3 do not overlap, so their union is their sum. -/
theorem flagBits_eq_ofNat_sum : ∀ b0 b1 b2 b3 : Bool,
    flagBit b0 ||| flagBit b1 <<< 1 ||| flagBit b2 <<< 2 ||| flagBit b3 <<< 3 =
      BitVec.ofNat 32 ((if b0 then 1 else 0) + (if b1 then 2 else 0) + (if b2 then 4 else 0) + (if b3 then 8 else 0)) := by
  decide

section
variable {s : State} {r : BitVec 8} {v : BitVec 32}

theorem State.statusWord_eq_ofNat_sum : s.statusWord =
    BitVec.ofNat 32 ((if s.mode = .ready then 1 else 0) + (if s.activeIndex then 2 else 0) +
      (if s.flipPending then 4 else 0) + (if s.bgPresent then 8 else 0)) := by
  rw [State.statusWord, flagBits_eq_ofNat_sum]
  simp only [beq_iff_eq]

/-- The numbers 10 to 255 are reserved. -/
theorem State.regValue_reserved (hr : 9 < r.toNat) : s.regValue r = none := by
  unfold State.regValue
  split
  case h_11 => rfl
  all_goals omega

theorem State.Cleared.statusWord_eq_zero (h : s.Cleared) (hm : s.mode = .unconfigured) : s.statusWord = 0 := by
  simp [State.statusWord, flagBit, hm, h.activeIndex, h.flipPending, h.bgPresent]

theorem State.Cleared.regValue_eq_zero (h : s.Cleared) (hm : s.mode = .unconfigured) (hr : r.toNat ≤ 9) :
    s.regValue r = some 0 := by
  have hstatus := h.statusWord_eq_zero hm
  obtain ⟨hwidth, hheight, hwpl, htop, hplane0, hplane1, -, -, hpal0, hpal1, -, hbg⟩ := h
  interval_cases hn : r.toNat <;>
    simp only [State.regValue, hn, hstatus, hwidth, hheight, hwpl, htop, hplane0, hplane1, hpal0, hpal1, hbg,
      BitVec.ofNat_eq_ofNat, BitVec.setWidth_zero]

/-! ### What READ_REG answers (R170) -/

theorem exec_readReg_of_regValue (hm : s.mode ≠ .halted) (hv : s.regValue r = some v) :
    exec (.readReg r) s = .next (s.respond v 0 0 0) := by
  refine (State.unlessHalted_running hm _).trans ?_
  rw [hv]

theorem exec_readReg_of_reserved (hm : s.mode ≠ .halted) (hr : 9 < r.toNat) :
    exec (.readReg r) s = .next (s.reject .errIllegal) := by
  refine (State.unlessHalted_running hm _).trans ?_
  rw [State.regValue_reserved hr]

end

end Sys2Proof.Machine

namespace Sys2Proof.Proofs

open Sys2Proof.Machine

/-- Settles O46: the register's value is read off the table of 10_state.md R29. -/
theorem readRegReturnsTheRegister : Obligations.ReadRegReturnsTheRegister := by
  intro s hm
  refine ⟨fun r v hv => exec_readReg_of_regValue hm ?_, fun r hr => exec_readReg_of_reserved hm hr⟩
  rcases hv with ⟨rfl, rfl⟩ | ⟨rfl, rfl⟩ | ⟨rfl, rfl⟩ | ⟨rfl, rfl⟩ | ⟨rfl, rfl⟩ | ⟨rfl, rfl⟩ | ⟨rfl, rfl⟩ | ⟨rfl, rfl⟩ |
    ⟨rfl, rfl⟩ | ⟨rfl, rfl⟩
  case inl => exact congrArg some State.statusWord_eq_ofNat_sum
  all_goals simp [State.regValue]

/-- Settles O47: the invariant gives every variable its reset value in UNCONFIGURED, so STATUS and each register are 0. -/
theorem unconfiguredRegistersReadZero : Obligations.UnconfiguredRegistersReadZero := by
  intro s r hinv hm hr
  exact exec_readReg_of_regValue (by simp [hm]) ((hinv.unconfigured hm).regValue_eq_zero hm hr)

/-- Settles O5: each word is the encoding of its instruction; every pixel width admits the color 0x80, but only PIXW = 32
the 24-bit one. -/
theorem workedExampleWordsDecode : Obligations.WorkedExampleWordsDecode := by
  have reads {w : PixelWidth} {c : Command} {i : Instr} (hw : i.WellFormed w) (he : encode i = c) :
      decode w c = .ok i := decode_eq_ok_iff.mpr ⟨hw, he⟩
  have hdark (w : PixelWidth) : w.fits 0x80 = true := by cases w <;> rfl
  have hwhite : encode (.setFgColor 0xFFFFFF) = 0x5000000000FFFFFF0000000000000000 := by decide
  refine ⟨fun w => ?_, reads rfl hwhite, hwhite ▸ decode_encode_setFgColor_wide rfl,
    hwhite ▸ decode_encode_setFgColor_wide rfl⟩
  exact ⟨reads rfl (by decide), reads rfl (by decide), reads rfl (by decide), reads rfl (by decide),
    reads (hdark w) (by decide), reads rfl (by decide), reads rfl (by decide)⟩

end Sys2Proof.Proofs

/-! The statements from 60_exceptions.md and 70_reset_and_hazards.md: the rejections (R203, R204), the fatal halt, what raises
it and what ends it (R201, R208 to R210), commands under reset (R230), that neither context blocks the other (R215) and that a
command within its preconditions is safe (R217). -/

namespace Sys2Proof.Machine

@[simp] theorem State.advance_port (s : State) (rest : List Event) (p : Port) : (s.advance rest).port p = s.port p := by
  cases p <;> rfl

/-! ### Rejections and reset (R203, R204; 70_reset_and_hazards.md R230) -/

section
variable {s t : State} {i : Instr} {p : Port} {cmd : Command}

/-- What becomes of a command that writes the response and nothing else. -/
theorem State.answer_eq_of_response {r : Response} (h : s.response = some r) (p : Port) (cmd : Command) :
    s.answer p cmd = s.setPort p { s.port p with lastResponse := some r } := by
  simp [State.answer, h]

theorem execCommand_of_illegal {e : Illegal} (hm : s.mode ≠ .halted) (hd : decode s.platform.pixelWidth cmd = .error e) :
    execCommand cmd s = .next (s.reject .errIllegal) :=
  (execCommand_error hd).trans (State.unlessHalted_running hm _)

/-- In UNCONFIGURED a command that needs READY is rejected; INIT, INIT.BG and READ_REG do not need it (R204). -/
theorem exec_of_unconfigured (hm : s.mode = .unconfigured) (hw : i.WellFormed s.platform.pixelWidth)
    (hinit : ∀ w h l, i ≠ .init w h l) (hinitBg : ∀ w h l a, i ≠ .initBg w h l a) (hread : ∀ r, i ≠ .readReg r) :
    exec i s = .next (s.reject .errState) := by
  cases i with
  | init w h l => exact absurd rfl (hinit w h l)
  | initBg w h l a => exact absurd rfl (hinitBg w h l a)
  | readReg r => exact absurd rfl (hread r)
  | setFgColor | setBgColor =>
    exact (State.withColor_fits hw _).trans (State.whenReady_unconfigured hm _)
  | destroy | rasterize | pendFlip | flipNow | getBackBuffer | makeBackGraphics | copyToBack
  | planeIsBitAddressable | setBackground | clrBackground => exact State.whenReady_unconfigured hm _

/-- READ_REG is answered, with the register or with a rejection. -/
theorem exec_readReg_responds (hm : s.mode ≠ .halted) (reg : BitVec 8) :
    ∃ r, exec (.readReg reg) s = .next { s with response := some r } := by
  cases hv : s.regValue reg with
  | some v => exact ⟨_, exec_readReg_of_regValue hm hv⟩
  | none => exact ⟨_, (State.unlessHalted_running hm _).trans (by rw [hv]; rfl)⟩

/-- In UNCONFIGURED every command but INIT and INIT.BG is answered, and writes nothing but its response. -/
theorem execCommand_of_unconfigured_responds (hm : s.mode = .unconfigured)
    (hinit : ∀ w h l, decode s.platform.pixelWidth cmd ≠ .ok (.init w h l))
    (hinitBg : ∀ w h l a, decode s.platform.pixelWidth cmd ≠ .ok (.initBg w h l a)) :
    ∃ r, execCommand cmd s = .next { s with response := some r } := by
  have hrun : s.mode ≠ .halted := by simp [hm]
  cases hd : decode s.platform.pixelWidth cmd with
  | error e => exact ⟨_, execCommand_of_illegal hrun hd⟩
  | ok i =>
    rw [execCommand_ok hd]
    obtain ⟨hw, _⟩ := encode_of_decode hd
    by_cases hread : ∃ reg, i = .readReg reg
    · obtain ⟨reg, rfl⟩ := hread
      exact exec_readReg_responds hrun reg
    · exact ⟨_, exec_of_unconfigured hm hw (fun w h l hi => hinit w h l (hi ▸ hd))
        (fun w h l a hi => hinitBg w h l a (hi ▸ hd)) fun reg hi => hread ⟨reg, hi⟩⟩

/-- A requester that is not stuck is left with its response and goes on. -/
theorem State.port_answer_of_response {r : Response} (hp : s.portStuck p = false) (h : s.response = some r) :
    (s.answer p cmd).port p = ⟨none, some r⟩ := by
  have hwait : (s.port p).waiting = none := by simpa [State.portStuck] using hp
  simp [State.answer_eq_of_response h, hwait]

/-- At an unconfigured block the other requester is nothing to the one that gets its response (R215). -/
theorem takeCommand_of_unconfigured_responds (hm : s.mode = .unconfigured) (hr : s.resetAsserted = false)
    (hp : s.portStuck p = false) (hinit : ∀ w h l, decode s.platform.pixelWidth cmd ≠ .ok (.init w h l))
    (hinitBg : ∀ w h l a, decode s.platform.pixelWidth cmd ≠ .ok (.initBg w h l a)) :
    ∃ t r, takeCommand p cmd s = .next t ∧ t.response = some r ∧ t.port p = ⟨none, some r⟩ ∧
      t.port p.other = s.port p.other := by
  obtain ⟨r, hexec⟩ := execCommand_of_unconfigured_responds hm hinit hinitBg
  refine ⟨_, r, (takeCommand_free hr hp).trans (congrArg (returnTo p cmd) hexec), ?response,
    State.port_answer_of_response ?free rfl, ?other⟩
  case response => rw [State.answer_eq_of_response rfl, State.setPort_response]
  case free => cases p <;> exact hp
  case other => cases p <;> rfl

/-- Asserting reset takes back the command a port holds and leaves the last response on it. -/
theorem State.port_setResetLine (s : State) (p : Port) : (setResetLine true s).port p = (s.port p).drop := by
  cases p <;> rfl

/-! ### The one way into HALTED (R201, R209) -/

/-- The only instruction that halts the block is MAKE_BACK_GRAPHICS, over a back plane that is not bit-addressable. -/
theorem State.Executes.eq_raiseFatal (h : s.Executes i t) (hm : s.mode ≠ .halted) (ht : t.mode = .halted) :
    i = .makeBackGraphics ∧ s.mode = .ready ∧ s.bitAddressable s.backBase = false ∧ t = s.raiseFatal := by
  cases h with
  | backHalts hr hb => exact ⟨rfl, hr, hb, rfl⟩
  | turnedAway h => exact absurd (h.mode_eq.symm.trans ht) hm
  | constructed | destroy => cases ht
  | rasterizeOutside | rasterizeRow => exact absurd (by simpa using ht) hm
  | starved | pendFlip | flipNow | getBackBuffer | backGranted | copyToBack | planeIsBitAddressable | setFgColor
  | setBgColor | setBackground | clrBackground | readReg => exact absurd ht hm

/-- The only event that halts the block is that command, and its requester is left waiting. -/
theorem State.Handles.eq_raiseFatal {e : Event} (h : s.Handles e t) (hm : s.mode ≠ .halted) (ht : t.mode = .halted) :
    s.mode = .ready ∧ s.bitAddressable s.backBase = false ∧
      ∃ p cmd, e = .command p cmd ∧ decode s.platform.pixelWidth cmd = .ok .makeBackGraphics ∧
        t = s.raiseFatal.leaveWaiting p cmd := by
  cases h with
  | passedOver | wrote | fetched => exact absurd ht hm
  | @resetLevel asserted =>
    cases asserted with
    | false => exact absurd ht hm
    | true => cases ht
  | @taken p cmd u _ _ hu =>
    have hhalt : u.mode = .halted := by simpa using ht
    rcases executes_of_execCommand hu with ⟨i, hd, hx⟩ | ha
    · obtain ⟨rfl, hr, hb, rfl⟩ := hx.eq_raiseFatal hm hhalt
      exact ⟨hr, hb, p, cmd, rfl, hd, rfl⟩
    · exact absurd (ha.mode_eq.symm.trans hhalt) hm

/-! ### Commands within their preconditions (R217) -/

theorem State.whenReady_answers {e : Result} (h : s.mode = .ready → ∃ t, e = .next t) : ∃ t, s.whenReady e = .next t := by
  unfold State.whenReady
  split
  · exact h ‹_›
  · exact ⟨_, rfl⟩
  · exact ⟨_, rfl⟩

theorem State.unlessHalted_answers (s t : State) : ∃ u, s.unlessHalted (.next t) = .next u := by
  unfold State.unlessHalted
  split <;> exact ⟨_, rfl⟩

theorem State.withColor_answers (s t : State) (color : Pixel) : ∃ u, s.withColor color (.next t) = .next u := by
  unfold State.withColor
  split
  · exact State.whenReady_answers fun _ => ⟨_, rfl⟩
  · exact s.unlessHalted_answers _

/-- The width is the one precondition of INIT: without room it is still an answer, one with no response. -/
theorem Instr.Constructs.answers {width height topLine : Dim} {bg : Option Addr}
    (hi : Instr.Constructs i width height topLine bg) (hw : s.mode = .unconfigured → width.toNat % Config.bpw = 0) :
    ∃ t, exec i s = .next t := by
  cases hm : s.mode with
  | unconfigured => exact ⟨_, hi.exec_of_aligned hm (hw hm)⟩
  | ready => exact ⟨_, (hi.exec_eq s).trans (State.whenUnconfigured_ready hm _)⟩
  | halted => exact ⟨_, exec_of_halted hm i⟩

/-- A line out of range has no row to refuse. -/
theorem State.produceRow_answers {cpp : Cpp} {line : Dim} {dest : Addr}
    (h : ∀ row, s.rowInRange line = some row → s.RowAllowed row dest.toNat) :
    ∃ t, s.produceRow cpp line dest = .next t := by
  cases hrow : s.rowInRange line with
  | none => exact ⟨_, State.produceRow_of_none hrow⟩
  | some row => exact ⟨_, State.produceRow_of_allowed hrow (h row hrow)⟩

/-- The planes of a constructed block lie in the arena, so in the address space (47_external_units.md R175). -/
theorem State.Sound.planesAllowed (hs : s.Sound) (hm : s.mode ≠ .unconfigured) : s.PlanesAllowed := by
  obtain ⟨_, _, hlimit⟩ := hs.arena
  obtain ⟨_, _, _, _, _, _, _, _, hspace⟩ := hs.platform
  have hc := hs.constructed hm
  obtain ⟨_, h0⟩ := hc.fromArena0
  obtain ⟨_, h1⟩ := hc.fromArena1
  exact ⟨by omega, by omega, hc.apart⟩

/-- The consumption of a RASTERIZE moves neither the frame's top line nor its height. -/
theorem State.rowInRange_atLine (s : State) (line : Dim) : (s.atLine line).rowInRange line = s.rowInRange line := by
  obtain ⟨a, f, e⟩ := s.atLine_eq line
  rw [e]
  rfl

theorem State.atLine_advance (s : State) (line : Dim) (rest : List Event) :
    (s.advance rest).atLine line = (s.atLine line).advance rest := by
  have hrow : (s.advance rest).localRow line = s.localRow line := rfl
  unfold State.atLine
  rw [hrow]
  split <;> rfl

/-- What a command requires does not depend on the steps to come. -/
theorem State.Permits.advance (h : s.Permits i) (rest : List Event) : (s.advance rest).Permits i := by
  cases i with
  | rasterize cpp line dest =>
    intro hm row hrow
    rw [State.atLine_advance]
    exact h hm row hrow
  | _ => exact h

/-- A permitted instruction is not refused. -/
theorem exec_answers_of_permits (hs : s.Sound) (hp : s.Permits i) : ∃ t, exec i s = .next t := by
  cases i with
  | init w h l => exact (Instr.Constructs.init w h l).answers hp
  | initBg w h l a => exact (Instr.Constructs.initBg w h l a).answers hp
  | rasterize cpp line dest =>
    exact State.whenReady_answers fun hm => State.produceRow_answers fun row hrow =>
      hp hm row (s.rowInRange_atLine line ▸ hrow)
  | copyToBack =>
    exact State.whenReady_answers fun hm =>
      ⟨_, by rw [State.copyFrontToBack_of_allowed (hs.planesAllowed (by simp [hm]))]⟩
  | setFgColor | setBgColor => exact s.withColor_answers _ _
  | readReg => exact s.unlessHalted_answers _
  | destroy | pendFlip | flipNow | getBackBuffer | makeBackGraphics | planeIsBitAddressable | setBackground
  | clrBackground => exact State.whenReady_answers fun _ => ⟨_, rfl⟩

/-- A permitted instruction does not halt the block: MAKE_BACK_GRAPHICS finds its plane bit-addressable. -/
theorem mode_ne_halted_of_permits (hm : s.mode ≠ .halted) (hp : s.Permits i) (h : exec i s = .next t) :
    t.mode ≠ .halted := by
  intro ht
  obtain ⟨rfl, hr, hb, _⟩ := (executes_of_exec h).eq_raiseFatal hm ht
  exact Bool.false_ne_true (hb.symm.trans (hp hr))

theorem execCommand_of_permits (hs : s.Sound) (hm : s.mode ≠ .halted)
    (hp : ∀ i, decode s.platform.pixelWidth cmd = .ok i → s.Permits i) :
    ∃ t, execCommand cmd s = .next t ∧ t.mode ≠ .halted := by
  cases hd : decode s.platform.pixelWidth cmd with
  | error e => exact ⟨_, execCommand_of_illegal hm hd, hm⟩
  | ok i =>
    obtain ⟨t, ht⟩ := exec_answers_of_permits hs (hp i hd)
    exact ⟨t, (execCommand_ok hd).trans ht, mode_ne_halted_of_permits hm (hp i hd) ht⟩

theorem safeAnswer_next : safeAnswer (.next t) = true ↔ t.mode ≠ .halted := by
  simp [safeAnswer, State.fatal]

/-- A command dropped under reset or passed over for a stuck requester is as safe as the state it meets. -/
theorem safeAnswer_takeCommand (hm : s.mode ≠ .halted) (h : ∃ t, execCommand cmd s = .next t ∧ t.mode ≠ .halted) :
    safeAnswer (takeCommand p cmd s) = true := by
  unfold takeCommand
  split
  · exact safeAnswer_next.mpr hm
  · split
    · exact safeAnswer_next.mpr hm
    · obtain ⟨t, ht, hrun⟩ := h
      rw [ht]
      exact safeAnswer_next.mpr (by simpa using hrun)

end

/-! ### What the other port holds (R215) -/

/-- The answer with a port's contents replaced in the next state. -/
def withPort (q : Port) (v : PortState) : Result → Result
  | .next t => .next (t.setPort q v)
  | .fault f => .fault f
  | .refused r => .refused r

section
variable (s : State) (q : Port) (v : PortState)

theorem State.reject_setPort (st : Status) : (s.setPort q v).reject st = (s.reject st).setPort q v := by
  cases q <;> rfl

theorem State.noResponse_setPort : (s.setPort q v).noResponse = s.noResponse.setPort q v := by
  cases q <;> rfl

variable {s q v}

/-- Admission looks at MODE alone. -/
theorem State.whenReady_setPort {e e' : Result} (h : e' = withPort q v e) :
    (s.setPort q v).whenReady e' = withPort q v (s.whenReady e) := by
  unfold State.whenReady
  rw [State.setPort_mode]
  split
  · exact h
  · exact congrArg _ (s.reject_setPort q v _)
  · exact congrArg _ (s.noResponse_setPort q v)

theorem State.whenUnconfigured_setPort {e e' : Result} (h : e' = withPort q v e) :
    (s.setPort q v).whenUnconfigured e' = withPort q v (s.whenUnconfigured e) := by
  unfold State.whenUnconfigured
  rw [State.setPort_mode]
  split
  · exact h
  · exact congrArg _ (s.reject_setPort q v _)
  · exact congrArg _ (s.noResponse_setPort q v)

theorem State.unlessHalted_setPort {e e' : Result} (h : e' = withPort q v e) :
    (s.setPort q v).unlessHalted e' = withPort q v (s.unlessHalted e) := by
  unfold State.unlessHalted
  rw [State.setPort_mode]
  split
  · exact congrArg _ (s.noResponse_setPort q v)
  · exact h

theorem rejectIllegal_setPort : rejectIllegal (s.setPort q v) = withPort q v (rejectIllegal s) :=
  State.unlessHalted_setPort (congrArg _ (s.reject_setPort q v _))

theorem State.withColor_setPort {color : Pixel} {e e' : Result} (h : e' = withPort q v e) :
    (s.setPort q v).withColor color e' = withPort q v (s.withColor color e) := by
  unfold State.withColor
  rw [State.setPort_platform]
  split
  · exact State.whenReady_setPort h
  · exact rejectIllegal_setPort

theorem State.initialiseAligned_setPort (width height topLine : Dim) (bg : Option Addr) :
    (s.setPort q v).initialiseAligned width height topLine bg =
      (s.initialiseAligned width height topLine bg).setPort q v := by
  have hplanes (count : Nat) : (s.setPort q v).allocatePlanes count = s.allocatePlanes count := by cases q <;> rfl
  unfold State.initialiseAligned
  rw [hplanes]
  split <;> cases q <;> rfl

theorem State.initialise_setPort (width height topLine : Dim) (bg : Option Addr) :
    (s.setPort q v).initialise width height topLine bg = withPort q v (s.initialise width height topLine bg) := by
  refine State.whenUnconfigured_setPort ?_
  rw [State.initialiseAligned_setPort]
  split <;> rfl

theorem State.atLine_setPort (line : Dim) : (s.setPort q v).atLine line = (s.atLine line).setPort q v := by
  have hrow : (s.setPort q v).localRow line = s.localRow line := by cases q <;> rfl
  unfold State.atLine
  rw [hrow]
  split
  · cases q <;> rfl
  · rfl

theorem State.rasterRow_setPort (row dest : Nat) :
    (s.setPort q v).rasterRow row dest = (s.rasterRow row dest).map (·.setPort q v) := by
  have hrefusal : (s.setPort q v).rowRefusal row dest = s.rowRefusal row dest := by cases q <;> rfl
  unfold State.rasterRow
  rw [hrefusal]
  split
  · rfl
  · cases q <;> rfl

theorem State.produceRow_setPort (cpp : Cpp) (line : Dim) (dest : Addr) :
    (s.setPort q v).produceRow cpp line dest = withPort q v (s.produceRow cpp line dest) := by
  have hrow : (s.setPort q v).rowInRange line = s.rowInRange line := by cases q <;> rfl
  unfold State.produceRow
  rw [hrow]
  split
  · cases q <;> rfl
  · rw [State.rasterRow_setPort]
    cases s.rasterRow _ dest.toNat with
    | ok t => cases q <;> rfl
    | error r => rfl

theorem State.copyFrontToBack_setPort :
    (s.setPort q v).copyFrontToBack = s.copyFrontToBack.map (·.setPort q v) := by
  have hwords : (s.setPort q v).planeWords = s.planeWords := by cases q <;> rfl
  have hvalid : (s.setPort q v).planesValid = s.planesValid := by cases q <;> rfl
  unfold State.copyFrontToBack
  rw [hwords, hvalid]
  split
  · rfl
  · split
    · cases q <;> rfl
    · rfl

/-- No instruction reads or writes what a port holds. -/
theorem exec_setPort (i : Instr) : exec i (s.setPort q v) = withPort q v (exec i s) := by
  cases i with
  | init width height topLine => exact State.initialise_setPort width height topLine none
  | initBg width height topLine bgAddr => exact State.initialise_setPort width height topLine (some bgAddr)
  | rasterize cpp line dest =>
    exact State.whenReady_setPort (by rw [State.atLine_setPort, State.produceRow_setPort])
  | makeBackGraphics =>
    have haddr : (s.setPort q v).bitAddressable (s.setPort q v).backBase = s.bitAddressable s.backBase := by
      cases q <;> rfl
    refine State.whenReady_setPort ?_
    rw [haddr]
    split <;> cases q <;> rfl
  | copyToBack =>
    refine State.whenReady_setPort ?_
    rw [State.copyFrontToBack_setPort]
    cases s.copyFrontToBack with
    | ok t => cases q <;> rfl
    | error r => rfl
  | setFgColor | setBgColor => exact State.withColor_setPort (by cases q <;> rfl)
  | readReg reg =>
    have hreg : (s.setPort q v).regValue reg = s.regValue reg := by cases q <;> rfl
    refine State.unlessHalted_setPort ?_
    rw [hreg]
    cases s.regValue reg <;> cases q <;> rfl
  | destroy | pendFlip | flipNow | getBackBuffer | planeIsBitAddressable | setBackground | clrBackground =>
    exact State.whenReady_setPort (by cases q <;> rfl)

theorem execCommand_setPort (cmd : Command) :
    execCommand cmd (s.setPort q v) = withPort q v (execCommand cmd s) := by
  unfold execCommand
  rw [State.setPort_platform]
  split
  · exact exec_setPort _
  · exact rejectIllegal_setPort

/-- The response goes to the port of the command, whatever is put on the other. -/
theorem State.answer_setPort_other (t : State) (p : Port) (v : PortState) (cmd : Command) :
    (t.setPort p.other v).answer p cmd = (t.answer p cmd).setPort p.other v := by
  unfold State.answer
  rw [State.setPort_response]
  split <;> cases p <;> rfl

theorem takeCommand_setPort_other (s : State) (p : Port) (v : PortState) (cmd : Command) :
    takeCommand p cmd (s.setPort p.other v) = withPort p.other v (takeCommand p cmd s) := by
  have hstuck : (s.setPort p.other v).portStuck p = s.portStuck p := by cases p <;> rfl
  unfold takeCommand
  rw [State.setPort_resetAsserted, hstuck, execCommand_setPort]
  split
  · rfl
  · split
    · rfl
    · cases execCommand cmd s with
      | next t => exact congrArg Host.Outcome.next (t.answer_setPort_other p v cmd)
      | fault f => rfl
      | refused r => rfl

end

end Sys2Proof.Machine

namespace Sys2Proof.Proofs

open Sys2Proof.Machine

/-- Settles O9: no instruction looks at the ports, and of the commands only INIT and INIT.BG wait for the allocator. -/
theorem contextsDoNotBlockEachOther : Obligations.ContextsDoNotBlockEachOther := by
  intro s p cmd rest hpend
  have hstep : step s = takeCommand p cmd (s.advance rest) := stepEvent_cons hpend
  refine ⟨fun v => ?_, fun hm hr hp hinit hinitBg => ?_⟩
  · have hother : step (s.setPort p.other v) = takeCommand p cmd ((s.setPort p.other v).advance rest) :=
      stepEvent_cons ((s.setPort_pending p.other v).trans hpend)
    have hcomm : (s.setPort p.other v).advance rest = (s.advance rest).setPort p.other v := by cases p <;> rfl
    rw [hother, hcomm, takeCommand_setPort_other, ← hstep]
    cases step s <;> rfl
  · have hfree : (s.advance rest).portStuck p = false := by simpa using hp
    simpa [hstep] using takeCommand_of_unconfigured_responds (s := s.advance rest) hm hr hfree hinit hinitBg

/-- Settles O18: every other event keeps MODE, and asserting reset clears the block. -/
theorem onlyResetLeavesHalted : Obligations.OnlyResetLeavesHalted := by
  intro s t hm h
  cases hpend : s.pending with
  | nil =>
    cases (stepEvent_nil hpend).symm.trans h
    exact .inl hm
  | cons e rest =>
    have hhandle : handle e (s.advance rest) = .next t := (stepEvent_cons hpend).symm.trans h
    by_cases he : e = .resetLine true
    · subst he
      cases hhandle
      exact .inr ⟨rest, rfl, rfl, State.cleared_setResetLine _⟩
    · exact .inl ((handles_of_handle hhandle).halted hm he)

/-- Settles O37: of all events only the failing MAKE_BACK_GRAPHICS halts, and the state it leaves is `State.raiseFatal`. -/
theorem onlyAnAddressabilityViolationHalts : Obligations.OnlyAnAddressabilityViolationHalts := by
  intro s t hm h ht
  rcases handles_of_step h with rfl | ⟨e, rest, hpend, he⟩
  · exact absurd ht hm
  · obtain ⟨hready, hb, p, cmd, rfl, hd, rfl⟩ := he.eq_raiseFatal hm ht
    refine ⟨hready, hb, ⟨p, cmd, rest, hpend, hd, ?_⟩, ?_⟩
    · simp [State.leaveWaiting, State.portStuck]
    · cases p <;> rfl

/-- Settles O51: a permitted command answers a state, and the one way into HALTED is not permitted. -/
theorem permittedCommandsAreSafe : Obligations.PermittedCommandsAreSafe := by
  intro s p cmd rest hinv hm hpend hpermits
  have hstep : step s = takeCommand p cmd (s.advance rest) := stepEvent_cons hpend
  obtain ⟨hs, _⟩ := State.inv_iff.mp hinv
  rw [hstep]
  exact safeAnswer_takeCommand hm
    (execCommand_of_permits (hs.of_bare_eq rfl) hm fun i hd => (hpermits i hd).advance rest)

/-- Settles O10: the decoder rejects the command, and the rejection goes back to its port. -/
theorem illegalCommandIsRejected : Obligations.IllegalCommandIsRejected := by
  intro s p cmd rest e hpend hr hp hm hd
  have hfree : (s.advance rest).portStuck p = false := by simpa using hp
  refine ⟨rfl, ?_⟩
  calc step s
      = takeCommand p cmd (s.advance rest) := stepEvent_cons hpend
    _ = returnTo p cmd (execCommand cmd (s.advance rest)) := takeCommand_free hr hfree
    _ = .next (((s.advance rest).reject .errIllegal).answer p cmd) :=
        congrArg (returnTo p cmd) (execCommand_of_illegal (s := s.advance rest) hm hd)
    _ = _ := by cases p <;> rfl

/-- Settles O11: every command but INIT, INIT.BG and READ_REG needs READY, and INIT and INIT.BG need UNCONFIGURED. -/
theorem wrongModeIsRejected : Obligations.WrongModeIsRejected :=
  ⟨rfl, fun _ => ⟨fun hm _ hw => exec_of_unconfigured hm hw,
    fun hm _ _ _ _ => ⟨State.whenUnconfigured_ready hm _, State.whenUnconfigured_ready hm _⟩⟩⟩

/-- Settles O12, by the admission check each instruction passes through. -/
theorem haltedInstructionsDoNothing : Obligations.HaltedInstructionsDoNothing :=
  fun i _ hm => exec_of_halted hm i

/-- Settles O17: under reset a command is passed over, and asserting reset empties both ports. -/
theorem commandUnderResetIsDropped : Obligations.CommandUnderResetIsDropped := by
  refine ⟨fun s p cmd rest hpend hr => ?_, fun s p rest hpend => ?_⟩
  · have hstep : step s = takeCommand p cmd (s.advance rest) := stepEvent_cons hpend
    exact hstep.trans (takeCommand_of_resetAsserted p cmd hr)
  · have hstep : step s = .next (setResetLine true (s.advance rest)) := stepEvent_cons hpend
    refine ⟨_, hstep, rfl, ?_, ?_, rfl⟩
    · rw [State.portStuck, State.port_setResetLine]
      rfl
    · rw [State.port_setResetLine]
      cases p <;> rfl

end Sys2Proof.Proofs
